-- ==== Sys2Proof/Word.lean ====
section
/-! DEFINITION. The block's plain names: its words of fixed width, its ports and its two crossing directions. -/

namespace Sys2Proof

/-- The count of an operation, one bit (spec/30_encoding.md R60, R61; decision D34). -/
abbrev Count := BitVec 1

/-- One requester interface: producer port `w p` or consumer port `r c` (spec/00_scope.md §6, spec/30_encoding.md R53, R64).
The number is any natural number; a configuration says which ports exist. -/
inductive Port where
  | w (p : Nat)
  | r (c : Nat)
  deriving DecidableEq, Repr, Inhabited

/-- The direction of a cursor crossing (spec/10_state.md R30, spec/42_cdc_sync.md R88). -/
inductive Dir where
  | w2r
  | r2w
  deriving DecidableEq, Repr, Inhabited

end Sys2Proof
end

