-- ==== Sys2Proof/Config.lean ====
section
/-! DEFINITION. What is fixed for the life of one machine (spec/00_scope.md R6 to R11), and the free values of the model. -/

namespace Sys2Proof

/-- The configuration `(A, W, DW, P, C, S)` (spec/00_scope.md R11). -/
structure Config where
  /-- log2 of the capacity (R6). -/
  A : Nat
  /-- Cursor width in bits (R7). -/
  W : Nat
  /-- Element width in bits (R8). -/
  DW : Nat
  /-- Number of producer ports (R9). -/
  P : Nat
  /-- Number of consumer ports (R9). -/
  C : Nat
  /-- Depth of each synchronizer, read by the realization only (R10). -/
  S : Nat
  deriving DecidableEq, Repr

/-- The capacity N = 2^A (spec/00_scope.md R6). -/
def Config.N (c : Config) : Nat := 2 ^ c.A

/-- A cursor value or its Gray code: W bits (spec/00_scope.md R7, R12). -/
abbrev Config.Cursor (c : Config) := BitVec c.W

/-- An element: DW bits that no rule looks inside (spec/00_scope.md R8). -/
abbrev Config.Element (c : Config) := BitVec c.DW

/-- A command word: DW + 2 bits (spec/30_encoding.md R56, R63). -/
abbrev Config.Command (c : Config) := BitVec (c.DW + 2)

/-- The condition of spec/00_scope.md R11 that an ill-formed configuration fails, the information CONFIG_INVALID records
(spec/60_exceptions.md R98). -/
inductive ConfigFault where
  /-- `A < W` fails. -/
  | cursorTooNarrow
  /-- `DW >= 1` fails. -/
  | elementEmpty
  /-- `P >= 1` fails. -/
  | noProducer
  /-- `C >= 1` fails. -/
  | noConsumer
  /-- `S >= 2` fails. -/
  | synchronizerTooShallow
  deriving DecidableEq, Repr

/-- The configuration of spec/95_test_vectors.md (A = 2, W = 3, DW = 8, P = C = 1) with S at its default 2 (R10);
DW = 8 is also the width opcode_table.json shows. DESIGN CHOICE, unsafe to rely on for another block: log entry 4. -/
def Config.table : Config := { A := 2, W := 3, DW := 8, P := 1, C := 1, S := 2 }

/-- A step that an agent other than the host can take (spec/60_exceptions.md R106). -/
inductive AgentMove where
  | commit (port : Port)
  | sync (dir : Dir) (k : Nat)
  deriving DecidableEq, Repr, Inhabited

/-- FREE VALUE. The data of a POP answered with count 0, which spec/41_pop.md R79 leaves to a free draw.
No body: nothing can be proved of its value. Log entry 5, safe. -/
opaque Config.freeElement : (dw : Nat) → Nat → BitVec dw

/-- FREE VALUE. The agent that steps, and its draw, when the host has no more trace lines (spec/60_exceptions.md R106:
"in any order"). No body. Log entry 3, safe. -/
opaque Config.freeMove : Nat → AgentMove

end Sys2Proof
end

