-- ==== Sys2Proof/Syntax.lean ====
section
/-! DEFINITION. The instructions of spec/opcode_table.json, one constructor per row. -/

namespace Sys2Proof

/-- The operations of the block's interface. The port is an operand of the issue step and not a field of the word
(spec/30_encoding.md R56); it is a natural number here, and `Instr.wf` says when the port exists and the element fits.
The ignored data bits of IDLE and POP are no operand (R59). -/
inductive Instr where
  /-- IDLE_W: the idle command on producer port `p` (spec/40_push.md R65). -/
  | idleW (p : Nat)
  /-- IDLE_R: the idle command on consumer port `c` (spec/41_pop.md R75). -/
  | idleR (c : Nat)
  /-- PUSH: the host presents element `v` on producer port `p` (spec/40_push.md R66). -/
  | push (p : Nat) (v : Nat)
  /-- POP: the host asks for an element on consumer port `c` (spec/41_pop.md R76). -/
  | pop (c : Nat)
  /-- NEW: construct or reset the block (spec/70_reset_and_hazards.md R111). -/
  | new
  deriving DecidableEq, Repr

end Sys2Proof
end

