-- ==== Sys2Proof/WellFormed.lean ====
section
/-! DEFINITION. When an instruction is one of a given configuration's block. -/

namespace Sys2Proof

/-- The port exists: `0 <= p < P` or `0 <= c < C` (spec/30_encoding.md R53). -/
def Port.exists (c : Config) : Port → Bool
  | .w p => decide (p < c.P)
  | .r q => decide (q < c.C)

/-- The port exists, and a PUSH element has DW bits (spec/30_encoding.md R59). -/
def Instr.wf (c : Config) : Instr → Bool
  | .idleW p => (Port.w p).exists c
  | .idleR q => (Port.r q).exists c
  | .push p v => (Port.w p).exists c && decide (v < 2 ^ c.DW)
  | .pop q => (Port.r q).exists c
  | .new => true

end Sys2Proof
end

