-- ==== Sys2Proof/Machine/State.lean ====
section
/-! DEFINITION. Every piece of state of the block (spec/10_state.md R15), the trace the model consumes (spec/30_encoding.md
R64), the reasons a step can stop, and the state after reset (spec/10_state.md R36). -/

namespace Sys2Proof.Machine

/-- `wport[p]` (spec/10_state.md R23). -/
inductive WPort (c : Config) where
  | idle
  | pending (v : c.Element)
  deriving DecidableEq, Repr

/-- `rport[c]` (spec/10_state.md R24). -/
inductive RPort where
  | idle
  | pending
  deriving DecidableEq, Repr

/-- The response of a consumer port, `{count, data}` (spec/10_state.md R25, spec/30_encoding.md R61). -/
structure PopResponse (c : Config) where
  count : Count
  data : c.Element
  deriving DecidableEq, Repr

/-- The slot storage: the written slots with their elements, slot numbers strictly rising. A slot not listed is `none`,
not written since the last NEW (spec/10_state.md R22). -/
abbrev Memory (c : Config) := List (Nat × c.Element)

/-- The canonical form of the storage: slots strictly rising, each one of `0 .. N-1` (spec/10_state.md R22). -/
def Memory.wf {c : Config} (m : Memory c) : Bool :=
  decide (m.Pairwise (fun a b => a.1 < b.1)) && m.all (fun a => decide (a.1 < c.N))

/-- The forms spec/60_exceptions.md R100 names as out of scope. -/
inductive Form where
  | batchedPush
  | overwriteOnFullPush
  | variableLengthElement
  | oneDomainReset
  deriving DecidableEq, Repr

/-- The information of a fault mark (spec/60_exceptions.md R98). -/
inductive FaultMark (c : Config) where
  /-- RESET_WHILE_PENDING with the list of pending ports (spec/70_reset_and_hazards.md R112). -/
  | resetWhilePending (ports : List Port)
  /-- UNWRITTEN_SLOT_READ with the consumer port and `rbin` (spec/41_pop.md R80). -/
  | unwrittenSlotRead (port : Port) (cursor : c.Cursor)
  deriving DecidableEq, Repr

/-- The reason and information of a refusal mark (spec/60_exceptions.md R98, R100). CONFIG_INVALID is not among them:
it leaves no machine to hold a mark, and is `Refusal.configInvalid`. -/
inductive RefuseMark (c : Config) where
  /-- RESERVED_COMMAND with the port and the command word (spec/30_encoding.md R58). -/
  | reservedCommand (port : Port) (word : c.Command)
  /-- UNMODELLED_FORM with the form's name (spec/60_exceptions.md R100). -/
  | unmodelledForm (form : Form)
  deriving DecidableEq, Repr

/-- The command an Issue event records (spec/40_push.md R65, R66; spec/41_pop.md R75, R76). -/
inductive IssuedCommand (c : Config) where
  | idle
  | push (v : c.Element)
  | pop
  deriving DecidableEq, Repr

/-- The kind of a Commit event (spec/10_state.md R30). -/
inductive CommitKind where
  | push
  | pop
  deriving DecidableEq, Repr

/-- The events of the history (spec/10_state.md R30). -/
inductive Event (c : Config) where
  | issue (port : Port) (cmd : IssuedCommand c)
  | commit (port : Port) (kind : CommitKind) (count : Count) (cursor : c.Cursor) (value : Option c.Element)
  | sync (dir : Dir) (value : c.Cursor)
  | reset
  | fault (mark : FaultMark c)
  | refuse (mark : RefuseMark c)
  deriving DecidableEq, Repr

/-- The state of the block, element by element the table of spec/10_state.md R15. -/
structure Block (c : Config) where
  /-- Write cursor (R17). -/
  wbin : c.Cursor
  /-- Gray code of `wbin` (R19). -/
  wgray : c.Cursor
  /-- Read cursor (R18). -/
  rbin : c.Cursor
  /-- Gray code of `rbin` (R19). -/
  rgray : c.Cursor
  /-- The write domain's copy of `rgray` (R20). -/
  rsync : c.Cursor
  /-- The read domain's copy of `wgray` (R21). -/
  wsync : c.Cursor
  /-- The slots (R22). -/
  mem : Memory c
  /-- Producer port registers (R23). -/
  wport : Vector (WPort c) c.P
  /-- Consumer port registers (R24). -/
  rport : Vector RPort c.C
  /-- Producer responses (R25). -/
  wresp : Vector (Option Count) c.P
  /-- Consumer responses (R25). -/
  rresp : Vector (Option (PopResponse c)) c.C
  /-- Sticky fault marks, a set held as a list without repeats (R31). -/
  faults : List (FaultMark c)
  /-- Sticky refusal mark (R31). -/
  refused : Option (RefuseMark c)
  /-- The events in step order (R30). -/
  history : List (Event c)
  deriving DecidableEq, Repr

/-- The draw of a `sync` line (spec/30_encoding.md R64): a number, or `all` for the whole lag. -/
inductive Draw where
  | exactly (k : Nat)
  | all
  deriving DecidableEq, Repr

/-- One line of a trace, one step (spec/30_encoding.md R64). `issue` carries the raw command word, of which the `push`,
`idle` and `pop` forms are notations; `outOfScope` is a line that writes a form of spec/60_exceptions.md R100. -/
inductive Line (c : Config) where
  | reset
  | issue (port : Port) (word : c.Command)
  | commit (port : Port)
  | sync (dir : Dir) (draw : Draw)
  | outOfScope (form : Form)
  deriving DecidableEq, Repr

/-- The machine: the block's own state, and three fields of the model's own: the configuration, which no step changes
(log entry 4), the trace still to be taken, which is the environment's choice of requests, order and draws (log entry 2),
and the counter that selects the next free value (log entry 5). -/
structure State where
  cfg : Config
  blk : Block cfg
  trace : List (Line cfg)
  draws : Nat
  deriving DecidableEq, Repr

/-- Why the machine stops with a fault. -/
inductive Fault where
  /-- Raised by every step from a state that holds a fault mark: no agent has a step from it (spec/60_exceptions.md R99).
  Safe: the spec's own stop. -/
  | quiescent
  deriving DecidableEq, Repr

/-- Why a step is refused. -/
inductive Refusal where
  /-- Raised by an arm of `exec` whose instruction has no meaning yet. Safe. -/
  | notModelled (mnemonic : String)
  /-- Raised by every step, and by construction, for an ill-formed configuration: CONFIG_INVALID, no machine exists
  (spec/00_scope.md R11, spec/60_exceptions.md R98, R101). Safe: the spec's own refusal. -/
  | configInvalid (condition : ConfigFault)
  /-- Raised by every step from a state that holds a refusal mark and no fault mark (spec/60_exceptions.md R99). Safe: the
  spec's own stop. -/
  | quiescent
  /-- Raised by an issue or commit on a port the block does not have (spec/30_encoding.md R53). Safe: no such step exists. -/
  | noSuchPort (port : Port)
  /-- Raised by a PUSH whose element has more than DW bits, no command word (spec/30_encoding.md R59, R63; log entry 16). Safe:
  no such step exists. -/
  | elementTooWide (v : Nat)
  /-- Raised by an issue on a port whose request is pending: the host has no move (spec/60_exceptions.md R107). Unsafe
  for a host that breaks this duty: a claim says nothing of it (log entry 11). -/
  | portPending (port : Port)
  /-- Raised by a commit on an Idle port: its controller is not enabled (spec/60_exceptions.md R106). Safe: no such step
  exists. -/
  | portIdle (port : Port)
  /-- Raised by a synchronizer step whose draw is not in `0 .. lag` (spec/42_cdc_sync.md R90, R91; spec/95_test_vectors.md
  L2-SYNC-3). Safe: no such step exists. -/
  | drawOutsideWindow (dir : Dir) (k : Nat) (lag : Nat)
  deriving DecidableEq, Repr

/-- The block right after a first NEW, at the launch of a model (spec/10_state.md R36, spec/70_reset_and_hazards.md R111). -/
def Block.launch (c : Config) : Block c where
  wbin := 0
  wgray := 0
  rbin := 0
  rgray := 0
  rsync := 0
  wsync := 0
  mem := []
  wport := Vector.replicate c.P .idle
  rport := Vector.replicate c.C .idle
  wresp := Vector.replicate c.P none
  rresp := Vector.replicate c.C none
  faults := []
  refused := none
  history := [.reset]

/-- The machine of a configuration at launch, with no trace line yet. -/
def State.launch (c : Config) : State where
  cfg := c
  blk := Block.launch c
  trace := []
  draws := 0

/-- The state right after reset, for the configuration `Config.table` (log entry 4). -/
def State.reset : State := State.launch Config.table

end Sys2Proof.Machine
end

