-- ==== Sys2Proof/Machine/Gray.lean ====
section
/-! DEFINITION. The Gray code of the cursor crossing (spec/42_cdc_sync.md R85, R86). -/

namespace Sys2Proof.Machine

/-- `gray(b) = b ^ (b >> 1)` (spec/42_cdc_sync.md R85). -/
def gray {w : Nat} (b : BitVec w) : BitVec w := b ^^^ (b >>> 1)

/-- `g ^ (g >> 1) ^ ... ^ (g >> (n-1))`, the first `n` terms. -/
def xorShifts {w : Nat} (g : BitVec w) : Nat → BitVec w
  | 0 => 0
  | n + 1 => xorShifts g n ^^^ (g >>> n)

/-- `ungray(g) = g ^ (g >> 1) ^ ... ^ (g >> (W-1))` (spec/42_cdc_sync.md R86). -/
def ungray {w : Nat} (g : BitVec w) : BitVec w := xorShifts g w

end Sys2Proof.Machine
end

