-- ==== Sys2Proof/Machine/Flags.lean ====
section
/-! DEFINITION. The occupancy views, the lags and the two status flags, all functions of the state (spec/10_state.md R26
to R28, spec/42_cdc_sync.md R92). -/

namespace Sys2Proof.Machine

/-- True occupancy, `wbin -w rbin` (spec/10_state.md R26). -/
def Block.occ {c : Config} (b : Block c) : c.Cursor := b.wbin - b.rbin

/-- The write domain's view, `wbin -w ungray(rsync)` (spec/10_state.md R26). -/
def Block.occW {c : Config} (b : Block c) : c.Cursor := b.wbin - ungray b.rsync

/-- The read domain's view, `ungray(wsync) -w rbin` (spec/10_state.md R26). -/
def Block.occR {c : Config} (b : Block c) : c.Cursor := ungray b.wsync - b.rbin

/-- How far `rsync` is behind `rbin` (spec/10_state.md R26). -/
def Block.lagR {c : Config} (b : Block c) : c.Cursor := b.rbin - ungray b.rsync

/-- How far `wsync` is behind `wbin` (spec/10_state.md R26). -/
def Block.lagW {c : Config} (b : Block c) : c.Cursor := b.wbin - ungray b.wsync

/-- `full_w = (occ_w >= N)` (spec/10_state.md R27), the full test of a PUSH commit (spec/40_push.md R67). -/
def Block.fullW {c : Config} (b : Block c) : Bool := decide (c.N ≤ b.occW.toNat)

/-- `empty_r = (occ_r == 0)` (spec/10_state.md R28), the empty test of a POP commit (spec/41_pop.md R77). -/
def Block.emptyR {c : Config} (b : Block c) : Bool := decide (b.occR = 0)

/-- Both copies are up to date (spec/42_cdc_sync.md R92). -/
def Block.settled {c : Config} (b : Block c) : Bool :=
  decide (b.wsync = b.wgray) && decide (b.rsync = b.rgray)

end Sys2Proof.Machine
end

