-- ==== Sys2Proof/Machine/Operands.lean ====
section
/-! DEFINITION. The operand forms: slot indexes, ports and their registers, the element of a PUSH, the draw of a
synchronizer step (spec/20_memory.md R37, spec/30_encoding.md R53, R59, R64). -/

namespace Sys2Proof.Machine

/-- The slot a cursor value addresses, `k[A-1:0]`; slot 0 when A = 0 (spec/20_memory.md R37, spec/00_scope.md R12). -/
def slotOf (c : Config) (k : c.Cursor) : Nat := (k.extractLsb' 0 c.A).toNat

/-- The operand of a PUSH as an element of DW bits, or `none` where it has more (spec/30_encoding.md R59). -/
def elementOf (c : Config) (v : Nat) : Option c.Element :=
  if v < 2 ^ c.DW then some (BitVec.ofNat c.DW v) else none

/-- The port holds a request issued and not yet committed (spec/00_scope.md §6, "Pending"). -/
def Block.isPending {c : Config} (b : Block c) : Port → Bool
  | .w p =>
    match b.wport[p]? with
    | some (.pending _) => true
    | _ => false
  | .r q => decide (b.rport[q]? = some .pending)

/-- Every port of the block, producers first and each kind by rising number. DESIGN CHOICE, log entry 19: the spec orders no
list of ports. -/
def allPorts (c : Config) : List Port :=
  (List.range c.P).map Port.w ++ (List.range c.C).map Port.r

/-- The ports with a pending request, the information of RESET_WHILE_PENDING (spec/70_reset_and_hazards.md R112).
Their order is that of `allPorts`: DESIGN CHOICE, log entry 19. -/
def Block.pendingPorts {c : Config} (b : Block c) : List Port :=
  (allPorts c).filter b.isPending

/-- The number of positions a draw moves a copy, `all` being the whole lag (spec/30_encoding.md R64). -/
def Draw.amount (lag : Nat) : Draw → Nat
  | .exactly k => k
  | .all => lag

end Sys2Proof.Machine
end

