-- ==== Sys2Proof/Machine/Ops.lean ====
section
/-! DEFINITION. The named operations: storage, register writes, raising a fault and refusing, and the checks every step
makes first (spec/00_scope.md R13, spec/60_exceptions.md R98 to R101). -/

namespace Sys2Proof

/-- The first condition of spec/00_scope.md R11 that fails, in the order R11 lists them; `none` when well-formed. Where
several fail, that the first is the one recorded is a DESIGN CHOICE, log entry 20. -/
def Config.check (c : Config) : Option ConfigFault :=
  if c.W ≤ c.A then some .cursorTooNarrow
  else if c.DW = 0 then some .elementEmpty
  else if c.P = 0 then some .noProducer
  else if c.C = 0 then some .noConsumer
  else if c.S < 2 then some .synchronizerTooShallow
  else none

end Sys2Proof

namespace Sys2Proof.Machine

/-- `MemRead(i, 1)` (spec/00_scope.md R13). -/
def Memory.read {c : Config} : Memory c → Nat → Option c.Element
  | [], _ => none
  | (j, x) :: m, i => if i = j then some x else Memory.read m i

/-- `MemWrite(i, 1, v)` (spec/00_scope.md R13), keeping slots in rising order. -/
def Memory.write {c : Config} : Memory c → Nat → c.Element → Memory c
  | [], i, v => [(i, v)]
  | (j, x) :: m, i, v =>
    if i < j then (i, v) :: (j, x) :: m
    else if i = j then (i, v) :: m
    else (j, x) :: Memory.write m i v

/-- `record e` (spec/00_scope.md R13). -/
def Block.record {c : Config} (b : Block c) (e : Event c) : Block c :=
  { b with history := b.history ++ [e] }

/-- `wbin <- k` and `wgray <- gray(k)` in one step (spec/10_state.md R19). -/
def Block.setWrite {c : Config} (b : Block c) (k : c.Cursor) : Block c :=
  { b with wbin := k, wgray := gray k }

/-- `rbin <- k` and `rgray <- gray(k)` in one step (spec/10_state.md R19). -/
def Block.setRead {c : Config} (b : Block c) (k : c.Cursor) : Block c :=
  { b with rbin := k, rgray := gray k }

/-- `wsync <- g`. -/
def Block.setWsync {c : Config} (b : Block c) (g : c.Cursor) : Block c := { b with wsync := g }

/-- `rsync <- g`. -/
def Block.setRsync {c : Config} (b : Block c) (g : c.Cursor) : Block c := { b with rsync := g }

/-- `MemWrite(i, 1, v)` on the block's storage. -/
def Block.store {c : Config} (b : Block c) (i : Nat) (v : c.Element) : Block c :=
  { b with mem := b.mem.write i v }

/-- `wport[p] <- x`. -/
def Block.setWport {c : Config} (b : Block c) (p : Nat) (x : WPort c) : Block c :=
  { b with wport := b.wport.setIfInBounds p x }

/-- `rport[q] <- x`. -/
def Block.setRport {c : Config} (b : Block c) (q : Nat) (x : RPort) : Block c :=
  { b with rport := b.rport.setIfInBounds q x }

/-- `wresp[p] <- x`. -/
def Block.setWresp {c : Config} (b : Block c) (p : Nat) (x : Option Count) : Block c :=
  { b with wresp := b.wresp.setIfInBounds p x }

/-- `rresp[q] <- x`. -/
def Block.setRresp {c : Config} (b : Block c) (q : Nat) (x : Option (PopResponse c)) : Block c :=
  { b with rresp := b.rresp.setIfInBounds q x }

/-- Adds a mark to the set of fault marks (spec/10_state.md R31). -/
def Block.addFault {c : Config} (b : Block c) (f : FaultMark c) : Block c :=
  { b with faults := if f ∈ b.faults then b.faults else b.faults ++ [f] }

/-- Sets the refusal mark (spec/10_state.md R31). -/
def Block.setRefused {c : Config} (b : Block c) (r : RefuseMark c) : Block c :=
  { b with refused := some r }

/-- The assignments of NEW (spec/70_reset_and_hazards.md R111): the marks and the history stay. -/
def Block.cleared {c : Config} (b : Block c) : Block c :=
  { Block.launch c with faults := b.faults, refused := b.refused, history := b.history }

/-- `raise F(info)`: the mark and its event, nothing else (spec/60_exceptions.md R98). -/
def Block.raise {c : Config} (b : Block c) (f : FaultMark c) : Block c :=
  (b.addFault f).record (.fault f)

/-- `refuse F(info)`: the mark and its event, nothing else (spec/60_exceptions.md R100). -/
def Block.refuse {c : Config} (b : Block c) (r : RefuseMark c) : Block c :=
  (b.setRefused r).record (.refuse r)

/-- The code of a fault mark (spec/60_exceptions.md R98). -/
def FaultMark.code {c : Config} : FaultMark c → Nat
  | .resetWhilePending _ => 0x03
  | .unwrittenSlotRead _ _ => 0x04

/-- The code of a refusal mark (spec/60_exceptions.md R98). -/
def RefuseMark.code {c : Config} : RefuseMark c → Nat
  | .reservedCommand _ _ => 0x02
  | .unmodelledForm _ => 0x05

/-- The code of CONFIG_INVALID, whichever condition fails (spec/60_exceptions.md R98). -/
def configInvalidCode (_ : ConfigFault) : Nat := 0x01

/-- The answer of a step. -/
abbrev Answer := Host.Outcome State Fault Refusal

/-- The state with another block, the rest unchanged. -/
def State.withBlk (s : State) (b : Block s.cfg) : State := { s with blk := b }

/-- The free-value counter moved on by one. -/
def State.drawn (s : State) : State := { s with draws := s.draws + 1 }

/-- The checks before every step (spec/60_exceptions.md R101): an ill-formed configuration has no machine (R98), and a
state with a mark has no step (R99). Otherwise the step's own answer. -/
def State.whenLive (s : State) (answer : Answer) : Answer :=
  match s.cfg.check with
  | some condition => .refused (.configInvalid condition)
  | none =>
    if s.blk.faults ≠ [] then .fault .quiescent
    else if s.blk.refused.isSome then .refused .quiescent
    else answer

/-- Raising a fault as a step (spec/60_exceptions.md R98): the spec's whole exception entry, since no trap is taken (R103). -/
def State.raise (s : State) (f : FaultMark s.cfg) : Answer := .next (s.withBlk (s.blk.raise f))

/-- Refusing as a step (spec/60_exceptions.md R100). -/
def State.refuse (s : State) (r : RefuseMark s.cfg) : Answer := .next (s.withBlk (s.blk.refuse r))

/-- An issue step on producer port `p`: the port exists and is Idle (spec/60_exceptions.md R101, R107), else no step. -/
def State.whenWportIdle (s : State) (p : Nat) (answer : Answer) : Answer :=
  match s.blk.wport[p]? with
  | none => .refused (.noSuchPort (.w p))
  | some (.pending _) => .refused (.portPending (.w p))
  | some .idle => answer

/-- An issue step on consumer port `q`: the port exists and is Idle (spec/60_exceptions.md R101, R107), else no step. -/
def State.whenRportIdle (s : State) (q : Nat) (answer : Answer) : Answer :=
  match s.blk.rport[q]? with
  | none => .refused (.noSuchPort (.r q))
  | some .pending => .refused (.portPending (.r q))
  | some .idle => answer

end Sys2Proof.Machine
end

