-- ==== Sys2Proof/Machine/Pop.lean ====
section
/-! DEFINITION. The read-port operations: IDLE_R, POP and its commit (spec/41_pop.md). -/

namespace Sys2Proof.Machine

/-- IDLE_R (spec/41_pop.md R75). -/
def execIdleR (q : Nat) (s : State) : Answer :=
  s.whenLive (s.whenRportIdle q (.next (s.withBlk (s.blk.record (.issue (.r q) .idle)))))

/-- The writes of a POP issue (spec/41_pop.md R76). -/
def Block.issuePop {c : Config} (b : Block c) (q : Nat) : Block c :=
  ((b.setRport q .pending).setRresp q none).record (.issue (.r q) .pop)

/-- POP issue (spec/41_pop.md R76). -/
def execPop (q : Nat) (s : State) : Answer :=
  s.whenLive (s.whenRportIdle q (.next (s.withBlk (s.blk.issuePop q))))

/-- The writes of an accepted POP commit that read `v`; the slot keeps it (spec/41_pop.md R78). -/
def Block.acceptPop {c : Config} (b : Block c) (q : Nat) (v : c.Element) : Block c :=
  (((b.setRead (b.rbin + 1)).setRport q .idle).setRresp q (some ⟨1, v⟩)).record
    (.commit (.r q) .pop 1 b.rbin (some v))

/-- The writes of a rejected POP commit, `d` the free draw (spec/41_pop.md R79). -/
def Block.rejectPop {c : Config} (b : Block c) (q : Nat) (d : c.Element) : Block c :=
  ((b.setRport q .idle).setRresp q (some ⟨0, d⟩)).record (.commit (.r q) .pop 0 b.rbin none)

/-- POP commit on consumer port `q`: the empty test, then the slot test (spec/41_pop.md R77 to R80; spec/60_exceptions.md
R101). The data of a rejected pop is a FREE VALUE (log entry 5). -/
def commitPop (q : Nat) (s : State) : Answer :=
  s.whenLive <|
    match s.blk.rport[q]? with
    | none => .refused (.noSuchPort (.r q))
    | some .idle => .refused (.portIdle (.r q))
    | some .pending =>
      if s.blk.emptyR then
        .next (s.withBlk (s.blk.rejectPop q (Config.freeElement s.cfg.DW s.draws))).drawn
      else
        match s.blk.mem.read (slotOf s.cfg s.blk.rbin) with
        | some v => .next (s.withBlk (s.blk.acceptPop q v))
        | none => s.raise (.unwrittenSlotRead (.r q) s.blk.rbin)

end Sys2Proof.Machine
end

