-- ==== Sys2Proof/Machine/Push.lean ====
section
/-! DEFINITION. The write-port operations: IDLE_W, PUSH and its commit (spec/40_push.md). -/

namespace Sys2Proof.Machine

/-- IDLE_W (spec/40_push.md R65). -/
def execIdleW (p : Nat) (s : State) : Answer :=
  s.whenLive (s.whenWportIdle p (.next (s.withBlk (s.blk.record (.issue (.w p) .idle)))))

/-- The writes of a PUSH issue (spec/40_push.md R66). -/
def Block.issuePush {c : Config} (b : Block c) (p : Nat) (v : c.Element) : Block c :=
  ((b.setWport p (.pending v)).setWresp p none).record (.issue (.w p) (.push v))

/-- PUSH issue (spec/40_push.md R66). -/
def execPush (p v : Nat) (s : State) : Answer :=
  s.whenLive <|
    match elementOf s.cfg v with
    | none => .refused (.elementTooWide v)
    | some x => s.whenWportIdle p (.next (s.withBlk (s.blk.issuePush p x)))

/-- The writes of an accepted PUSH commit (spec/40_push.md R68). -/
def Block.acceptPush {c : Config} (b : Block c) (p : Nat) (v : c.Element) : Block c :=
  ((((b.store (slotOf c b.wbin) v).setWrite (b.wbin + 1)).setWport p .idle).setWresp p (some 1)).record
    (.commit (.w p) .push 1 b.wbin (some v))

/-- The writes of a rejected PUSH commit; the element is discarded (spec/40_push.md R69). -/
def Block.rejectPush {c : Config} (b : Block c) (p : Nat) : Block c :=
  ((b.setWport p .idle).setWresp p (some 0)).record (.commit (.w p) .push 0 b.wbin none)

/-- PUSH commit on producer port `p`, accepted or rejected by the full test (spec/40_push.md R67, R68, R69). -/
def commitPush (p : Nat) (s : State) : Answer :=
  s.whenLive <|
    match s.blk.wport[p]? with
    | none => .refused (.noSuchPort (.w p))
    | some .idle => .refused (.portIdle (.w p))
    | some (.pending v) =>
      .next (s.withBlk (if s.blk.fullW then s.blk.rejectPush p else s.blk.acceptPush p v))

end Sys2Proof.Machine
end

