-- ==== Sys2Proof/Machine/Reset.lean ====
section
/-! DEFINITION. Construction and NEW (spec/70_reset_and_hazards.md R111 to R115). -/

namespace Sys2Proof.Machine

/-- Construction: the configuration is checked before the machine exists (spec/00_scope.md R11,
spec/70_reset_and_hazards.md R115), and a well-formed one gives the state after a first NEW (R111). -/
def construct (c : Config) : Answer :=
  match c.check with
  | some condition => .refused (.configInvalid condition)
  | none => .next (State.launch c)

/-- NEW: with a pending request RESET_WHILE_PENDING, else the reset values and the event Reset
(spec/70_reset_and_hazards.md R111, R112). -/
def execNew (s : State) : Answer :=
  s.whenLive <|
    if s.blk.pendingPorts = [] then .next (s.withBlk (s.blk.cleared.record .reset))
    else s.raise (.resetWhilePending s.blk.pendingPorts)

end Sys2Proof.Machine
end

