-- ==== Sys2Proof/Machine/Dispatch.lean ====
section
/-! DEFINITION. One arm per instruction, each one call of its meaning. -/

namespace Sys2Proof.Machine

def exec (i : Instr) (s : State) : Host.Outcome State Fault Refusal :=
  match i with
  | .idleW p => Sys2Proof.Machine.execIdleW p s
  | .idleR c => Sys2Proof.Machine.execIdleR c s
  | .push p v => Sys2Proof.Machine.execPush p v s
  | .pop c => Sys2Proof.Machine.execPop c s
  | .new => Sys2Proof.Machine.execNew s

end Sys2Proof.Machine
end

