-- ==== Sys2Proof/Decode.lean ====
section
/-! DEFINITION. Command words to instructions and back (spec/30_encoding.md R56 to R63). -/

namespace Sys2Proof

/-- The values of the op field (spec/30_encoding.md R57). -/
inductive Op where
  | idle
  | push
  | pop
  | reserved
  deriving DecidableEq, Repr

/-- `op = CMD[DW+1:DW]` (spec/30_encoding.md R56). -/
def opField {c : Config} (word : c.Command) : BitVec 2 := word.extractLsb' c.DW 2

/-- `data = CMD[DW-1:0]` (spec/30_encoding.md R56). -/
def dataField {c : Config} (word : c.Command) : c.Element := word.extractLsb' 0 c.DW

/-- The op field decoded; total (spec/30_encoding.md R57). -/
def opOf (op : BitVec 2) : Op :=
  if op = 0b00#2 then .idle
  else if op = 0b01#2 then .push
  else if op = 0b10#2 then .pop
  else .reserved

/-- Why something presented to the block selects no instruction. -/
inductive DecodeError where
  /-- `op == 11` (spec/30_encoding.md R58). -/
  | reservedOp
  /-- POP on a producer port (R58). -/
  | popOnProducer
  /-- PUSH on a consumer port (R58). -/
  | pushOnConsumer
  /-- `rst == 0`: no NEW is selected (R62). -/
  | resetLow
  deriving DecidableEq, Repr

/-- The instruction a command word on a port selects. Total: the three illegal words of spec/30_encoding.md R58 are
rejected by name, every other word is IDLE, PUSH or POP (R57), and the data bits of IDLE and POP are ignored (R59). -/
def decode (c : Config) (port : Port) (word : c.Command) : Except DecodeError Instr :=
  match opOf (opField word), port with
  | .idle, .w p => .ok (.idleW p)
  | .idle, .r q => .ok (.idleR q)
  | .push, .w p => .ok (.push p (dataField word).toNat)
  | .push, .r _ => .error .pushOnConsumer
  | .pop, .w _ => .error .popOnProducer
  | .pop, .r q => .ok (.pop q)
  | .reserved, _ => .error .reservedOp

/-- What the host can present: a command word on a port, or a level on the reset input (spec/30_encoding.md R56, R62). -/
inductive Presented (c : Config) where
  | command (port : Port) (word : c.Command)
  | rst (level : BitVec 1)
  deriving DecidableEq, Repr

/-- The instruction selected by what the host presents; `rst == 1` selects NEW (spec/30_encoding.md R62). -/
def decodePresented (c : Config) : Presented c → Except DecodeError Instr
  | .command port word => decode c port word
  | .rst level => if level = 1#1 then .ok .new else .error .resetLow

/-- `{op, data}` as one word (spec/30_encoding.md R56). -/
def commandWord (c : Config) (op : BitVec 2) (data : c.Element) : c.Command :=
  (op ++ data).cast (Nat.add_comm 2 c.DW)

/-- What the host presents for an instruction: the words of the trace forms of spec/30_encoding.md R64, whose ignored data
bits are 0. -/
def encode (c : Config) : Instr → Presented c
  | .idleW p => .command (.w p) (commandWord c 0b00#2 0)
  | .idleR q => .command (.r q) (commandWord c 0b00#2 0)
  | .push p v => .command (.w p) (commandWord c 0b01#2 (BitVec.ofNat c.DW v))
  | .pop q => .command (.r q) (commandWord c 0b10#2 0)
  | .new => .rst 1#1

/-- The port a bare word of the opcode table is presented on: consumer port 0 for a POP, producer port 0 for the rest.
The word of IDLE is the same on both kinds of port and this reads it as IDLE_W. DESIGN CHOICE, log entry 6. -/
def tablePort (c : Config) (word : c.Command) : Port :=
  match opOf (opField word) with
  | .pop => .r 0
  | _ => .w 0

/-- The bits `w` of an opcode-table row as the host presents them: the one-byte row is the reset input (format RST), a
longer one a command word, and bits above the field or the word must be 0. -/
def presentTable (c : Config) (nbits w : Nat) : Option (Presented c) :=
  if nbits ≤ 8 then
    if w < 2 then some (.rst (BitVec.ofNat 1 w)) else none
  else if w < 2 ^ (c.DW + 2) then
    some (.command (tablePort c (BitVec.ofNat (c.DW + 2) w)) (BitVec.ofNat (c.DW + 2) w))
  else none

/-- The instruction the decoder reads from the bits of an opcode-table row, which has DW = 8. -/
def decodeTableWord (nbits w : Nat) : Option Instr :=
  match presentTable Config.table nbits w with
  | some x =>
    match decodePresented Config.table x with
    | .ok i => some i
    | .error _ => none
  | none => none

end Sys2Proof
end

