-- ==== Sys2Proof/Machine/Sync.lean ====
section
/-! DEFINITION. The synchronizer steps (spec/42_cdc_sync.md R90, R91). -/

namespace Sys2Proof.Machine

/-- `wsync` moved forward by `k` (spec/42_cdc_sync.md R90). -/
def Block.moveWsync {c : Config} (b : Block c) (k : Nat) : Block c :=
  (b.setWsync (gray (ungray b.wsync + BitVec.ofNat c.W k))).record
    (.sync .w2r (gray (ungray b.wsync + BitVec.ofNat c.W k)))

/-- `rsync` moved forward by `k` (spec/42_cdc_sync.md R91). -/
def Block.moveRsync {c : Config} (b : Block c) (k : Nat) : Block c :=
  (b.setRsync (gray (ungray b.rsync + BitVec.ofNat c.W k))).record
    (.sync .r2w (gray (ungray b.rsync + BitVec.ofNat c.W k)))

/-- SYNC_W2R with a draw in `0 .. lagW` (spec/42_cdc_sync.md R90). -/
def syncW2R (draw : Draw) (s : State) : Answer :=
  s.whenLive <|
    if draw.amount s.blk.lagW.toNat ≤ s.blk.lagW.toNat then
      .next (s.withBlk (s.blk.moveWsync (draw.amount s.blk.lagW.toNat)))
    else .refused (.drawOutsideWindow .w2r (draw.amount s.blk.lagW.toNat) s.blk.lagW.toNat)

/-- SYNC_R2W with a draw in `0 .. lagR` (spec/42_cdc_sync.md R91). -/
def syncR2W (draw : Draw) (s : State) : Answer :=
  s.whenLive <|
    if draw.amount s.blk.lagR.toNat ≤ s.blk.lagR.toNat then
      .next (s.withBlk (s.blk.moveRsync (draw.amount s.blk.lagR.toNat)))
    else .refused (.drawOutsideWindow .r2w (draw.amount s.blk.lagR.toNat) s.blk.lagR.toNat)

end Sys2Proof.Machine
end

