-- ==== Sys2Proof/Machine/Trace.lean ====
section
/-! DEFINITION. The lines of a trace (spec/30_encoding.md R64): the steps that are no instruction, the pseudo-instructions,
the per-port programs, and the line an agent's own move stands for. -/

namespace Sys2Proof.Machine

/-- The issue of an illegal word: RESERVED_COMMAND, whatever the port holds (spec/30_encoding.md R58,
spec/60_exceptions.md R101). -/
def issueIllegal (s : State) (port : Port) (word : s.cfg.Command) : Answer :=
  s.whenLive (if port.exists s.cfg then s.refuse (.reservedCommand port word) else .refused (.noSuchPort port))

/-- A line that writes an out-of-scope form: UNMODELLED_FORM (spec/60_exceptions.md R100). -/
def writeOutOfScope (s : State) (form : Form) : Answer := s.whenLive (s.refuse (.unmodelledForm form))

/-- The commit of a port's pending request. -/
def commitPort (s : State) : Port → Answer
  | .w p => commitPush p s
  | .r q => commitPop q s

/-- A synchronizer step. -/
def syncStep (s : State) (draw : Draw) : Dir → Answer
  | .w2r => syncW2R draw s
  | .r2w => syncR2W draw s

/-- The line that presents something to the block; a low reset input presents nothing. -/
def Presented.line {c : Config} : Presented c → Option (Line c)
  | .command port word => some (.issue port word)
  | .rst level => if level = 1#1 then some .reset else none

/-- `push w<p>, <v>`: issue, then commit (spec/30_encoding.md R64). -/
def Line.push (c : Config) (p : Nat) (v : c.Element) : List (Line c) :=
  [.issue (.w p) (commandWord c 0b01#2 v), .commit (.w p)]

/-- `pop r<q>`: issue, then commit (spec/30_encoding.md R64). -/
def Line.pop (c : Config) (q : Nat) : List (Line c) :=
  [.issue (.r q) (commandWord c 0b10#2 0), .commit (.r q)]

/-- `settle`: both synchronizers catch up (spec/30_encoding.md R64). -/
def Line.settle (c : Config) : List (Line c) := [.sync .w2r .all, .sync .r2w .all]

/-- The command words a trace presents on one port, in order: the port's own program (spec/10_state.md R16). -/
def Line.program {c : Config} (trace : List (Line c)) (port : Port) : List c.Command :=
  trace.filterMap fun
    | .issue q word => if q = port then some word else none
    | _ => none

/-- The move of the free value as a line of this state: a commit only of a pending port, a draw brought into `0 .. lag`;
in place of a commit that is not enabled the W2R synchronizer's stutter, which always is (spec/60_exceptions.md R106). -/
def State.agentLine (s : State) : Line s.cfg :=
  match Config.freeMove s.draws with
  | .commit port => if s.blk.isPending port then .commit port else .sync .w2r (.exactly 0)
  | .sync .w2r k => .sync .w2r (.exactly (k % (s.blk.lagW.toNat + 1)))
  | .sync .r2w k => .sync .r2w (.exactly (k % (s.blk.lagR.toNat + 1)))

end Sys2Proof.Machine
end

