-- ==== Sys2Proof/Machine/Step.lean ====
section
/-! DEFINITION. One step of the machine: the next line of the trace, or an agent's own move when the trace is empty. -/

namespace Sys2Proof.Machine

/-- One trace line as a step (spec/30_encoding.md R64). An issue line runs the instruction its word decodes to. -/
def runLine (s : State) : Line s.cfg → Host.Outcome State Fault Refusal
  | .reset => exec .new s
  | .issue port word =>
    match decode s.cfg port word with
    | .ok i => exec i s
    | .error _ => issueIllegal s port word
  | .commit port => commitPort s port
  | .sync dir draw => syncStep s draw dir
  | .outOfScope form => writeOutOfScope s form

/-- One step: the first line of the trace, taken off it; when no line is left, the host is done and an agent chosen by a
free value steps (spec/60_exceptions.md R106; log entries 2 and 3). -/
def step (s : State) : Host.Outcome State Fault Refusal :=
  match s.trace with
  | l :: rest => runLine { s with trace := rest } l
  | [] => runLine { s with draws := s.draws + 1 } s.agentLine

/-- `s` with the instruction of an opcode-table row as the next line of its trace, so that `step` runs it (log entry 7).
Bits that present nothing to this configuration's block leave `s` as it is. -/
def State.withFetchWord (s : State) (nbits w : Nat) : State :=
  match (presentTable s.cfg nbits w).bind Presented.line with
  | some l => { s with trace := l :: s.trace }
  | none => s

end Sys2Proof.Machine
end

