-- ==== Sys2Proof/Machine/Chain.lean ====
section
/-! DEFINITION. The realization of a synchronizer, a chain of S flip-flops (spec/42_cdc_sync.md R89). It is no state of the
machine (spec/10_state.md R32): it is here so that the abstract steps can be held against it. -/

namespace Sys2Proof.Machine

/-- The stages, stage 0 first; the last one is `wsync` or `rsync`. -/
structure Chain (c : Config) where
  stages : List c.Cursor
  deriving DecidableEq, Repr

/-- S stages, all 0 (spec/42_cdc_sync.md R89). -/
def Chain.reset (c : Config) : Chain c := ⟨List.replicate c.S 0⟩

/-- The last stage. -/
def Chain.out {c : Config} (ch : Chain c) : c.Cursor := ch.stages.getLast?.getD 0

/-- A destination clock edge: stage 0 takes the sample, stage i takes stage i-1 (spec/42_cdc_sync.md R89). -/
def Chain.edge {c : Config} (ch : Chain c) (sample : c.Cursor) : Chain c :=
  ⟨(sample :: ch.stages).dropLast⟩

/-- How far the value `g` is behind the source cursor. -/
def behind {c : Config} (source g : c.Cursor) : Nat := (source - ungray g).toNat

/-- The chain holds S values of the source, none older than a later stage's and none more than N behind: what every run of
the realization keeps (spec/42_cdc_sync.md R89, spec/10_state.md R33). -/
def Chain.Follows {c : Config} (ch : Chain c) (source : c.Cursor) : Prop :=
  ch.stages.length = c.S ∧
  (ch.stages.map (behind source)).Pairwise (· ≤ ·) ∧
  ∀ g ∈ ch.stages, behind source g ≤ c.N

/-- A sample the destination edge can take: no older than stage 0 holds, which is the old or the new value of a source
that changed one bit at about the edge (spec/42_cdc_sync.md R89). -/
def Chain.CanSample {c : Config} (ch : Chain c) (source sample : c.Cursor) : Prop :=
  ∀ g ∈ ch.stages, behind source sample ≤ behind source g

end Sys2Proof.Machine
end

