-- ==== Sys2Proof/Machine/Signals.lean ====
section
/-! DEFINITION. The signals of the block and its response words as functions of the state (spec/30_encoding.md R53 to R55,
R60, R61). The clocks are no signal of the untimed model (spec/00_scope.md R14). -/

namespace Sys2Proof.Machine

/-- The last step committed a request of this port. A `done` pulse lasts the cycle of the commit (spec/30_encoding.md R54,
R55); in the untimed model that is until the next step. DEDUCED, log entry 8. -/
def Block.justCommitted {c : Config} (b : Block c) (port : Port) : Bool :=
  match b.history.getLast? with
  | some (.commit q _ _ _ _) => decide (q = port)
  | _ => false

/-- `push_req[p]`, held by the host until the commit (spec/30_encoding.md R54). In the state where `done` is up it is low: the
spec lets the host lower it from the next cycle on. DESIGN CHOICE, log entry 8. -/
def Block.pushReq {c : Config} (b : Block c) (p : Nat) : Bool := b.isPending (.w p)

/-- `push_data[p]` while the request is pending (spec/30_encoding.md R54); `none`, not driven, in every other state, that where
`done` is up included. DESIGN CHOICE, log entry 8. -/
def Block.pushData {c : Config} (b : Block c) (p : Nat) : Option c.Element :=
  match b.wport[p]? with
  | some (.pending v) => some v
  | _ => none

/-- `push_done[p]` (spec/30_encoding.md R54). -/
def Block.pushDone {c : Config} (b : Block c) (p : Nat) : Bool := b.justCommitted (.w p)

/-- The response word `WRESP[0] = count` held for producer port `p` (spec/30_encoding.md R60). -/
def Block.wrespWord {c : Config} (b : Block c) (p : Nat) : Option (BitVec 1) := b.wresp[p]?.join

/-- `push_count[p]`, valid with `push_done[p]` (spec/30_encoding.md R53). -/
def Block.pushCount {c : Config} (b : Block c) (p : Nat) : Option Count :=
  if b.pushDone p then b.wrespWord p else none

/-- `pop_req[q]`, held by the host until the commit (spec/30_encoding.md R55). In the state where `done` is up it is low.
DESIGN CHOICE, log entry 8. -/
def Block.popReq {c : Config} (b : Block c) (q : Nat) : Bool := b.isPending (.r q)

/-- `pop_done[q]` (spec/30_encoding.md R55). -/
def Block.popDone {c : Config} (b : Block c) (q : Nat) : Bool := b.justCommitted (.r q)

/-- The response word `RRESP = {count, data}` of DW + 1 bits held for consumer port `q` (spec/30_encoding.md R61). -/
def Block.rrespWord {c : Config} (b : Block c) (q : Nat) : Option (BitVec (c.DW + 1)) :=
  b.rresp[q]?.join.map fun r => (r.count ++ r.data).cast (Nat.add_comm 1 c.DW)

/-- `pop_count[q]`, valid with `pop_done[q]` (spec/30_encoding.md R53). -/
def Block.popCount {c : Config} (b : Block c) (q : Nat) : Option Count :=
  if b.popDone q then b.rresp[q]?.join.map PopResponse.count else none

/-- `pop_data[q]`, meaningful only when `pop_count[q] == 1` (spec/30_encoding.md R53, R55). -/
def Block.popData {c : Config} (b : Block c) (q : Nat) : Option c.Element :=
  if b.popDone q then b.rresp[q]?.join.map PopResponse.data else none

end Sys2Proof.Machine
end

