-- ==== Sys2Proof/Machine/TraceText.lean ====
section
/-! DEFINITION. The text of a trace line, base forms and pseudo-instructions (spec/30_encoding.md R64), read into the lines
of the model. Text that is no such line of the configuration is `none`. -/

namespace Sys2Proof.Machine

/-- A word of the line so far, if there is one. -/
def flushWord (word : List Char) : List (List Char) := if word = [] then [] else [word]

/-- Words, split at blanks; a comma is a word of its own. -/
def wordsFrom (word : List Char) : List Char → List (List Char)
  | [] => flushWord word
  | ' ' :: rest => flushWord word ++ wordsFrom [] rest
  | ',' :: rest => flushWord word ++ [','] :: wordsFrom [] rest
  | ch :: rest => wordsFrom (word ++ [ch]) rest

/-- The value of a hexadecimal digit. -/
def digitOf (ch : Char) : Option Nat :=
  if '0' ≤ ch ∧ ch ≤ '9' then some (ch.toNat - '0'.toNat)
  else if 'a' ≤ ch ∧ ch ≤ 'f' then some (ch.toNat - 'a'.toNat + 10)
  else if 'A' ≤ ch ∧ ch ≤ 'F' then some (ch.toNat - 'A'.toNat + 10)
  else none

/-- Digits of a base, `acc` the value of those before. -/
def digitsFrom (base acc : Nat) : List Char → Option Nat
  | [] => some acc
  | ch :: rest =>
    match digitOf ch with
    | some d => if d < base then digitsFrom base (acc * base + d) rest else none
    | none => none

/-- "Values are written `0x..` (hex) or in decimal" (spec/30_encoding.md R64). -/
def numberOf : List Char → Option Nat
  | [] => none
  | ['0', 'x'] => none
  | '0' :: 'x' :: digits => digitsFrom 16 0 digits
  | digits => digitsFrom 10 0 digits

/-- A decimal port number. -/
def portNumberOf (digits : List Char) : Option Nat :=
  if digits = [] then none else digitsFrom 10 0 digits

/-- "Ports are written `w0 .. w(P-1)` and `r0 .. r(C-1)`" (spec/30_encoding.md R64). -/
def portOf (c : Config) : List Char → Option Port
  | 'w' :: digits =>
    match portNumberOf digits with
    | some p => if p < c.P then some (.w p) else none
    | none => none
  | 'r' :: digits =>
    match portNumberOf digits with
    | some q => if q < c.C then some (.r q) else none
    | none => none
  | _ => none

/-- A value of `width` bits; a wider one is refused, not truncated. -/
def valueOf (width : Nat) (word : List Char) : Option (BitVec width) :=
  match numberOf word with
  | some n => if n < 2 ^ width then some (BitVec.ofNat width n) else none
  | none => none

/-- The draw of a `sync` line. -/
def drawOf (word : List Char) : Option Draw :=
  if word = "all".toList then some .all else (numberOf word).map .exactly

/-- The direction of a `sync` line. -/
def dirOf (word : List Char) : Option Dir :=
  if word = "w2r".toList then some .w2r else if word = "r2w".toList then some .r2w else none

/-- Lines of two words: `commit <port>` and `pop r<q>`. -/
def lineOfTwo (c : Config) (head word : List Char) : Option (List (Line c)) :=
  match portOf c word with
  | none => none
  | some port =>
    if head = "commit".toList then some [.commit port]
    else if head = "pop".toList then
      match port with
      | .r q => some (Line.pop c q)
      | .w _ => none
    else none

/-- Lines of two operands: `issue <port>, idle`, `issue r<q>, pop`, `push w<p>, <v>` and `sync <dir>, <k>`. -/
def lineOfThree (c : Config) (head first second : List Char) : Option (List (Line c)) :=
  if head = "sync".toList then
    match dirOf first, drawOf second with
    | some dir, some draw => some [.sync dir draw]
    | _, _ => none
  else
    match portOf c first with
    | none => none
    | some port =>
      if head = "issue".toList then
        if second = "idle".toList then some [.issue port (commandWord c 0b00#2 0)]
        else if second = "pop".toList then
          match port with
          | .r q => some [.issue (.r q) (commandWord c 0b10#2 0)]
          | .w _ => none
        else none
      else if head = "push".toList then
        match port with
        | .w p => (valueOf c.DW second).map (Line.push c p)
        | .r _ => none
      else none

/-- Lines `issue w<p>, push <v>` and `issue <port>, raw <hex>`. -/
def lineOfFour (c : Config) (head first kind value : List Char) : Option (List (Line c)) :=
  if head = "issue".toList then
    match portOf c first with
    | none => none
    | some port =>
      if kind = "push".toList then
        match port with
        | .w p => (valueOf c.DW value).map fun v => [.issue (.w p) (commandWord c 0b01#2 v)]
        | .r _ => none
      else if kind = "raw".toList then
        (valueOf (c.DW + 2) value).map fun word => [.issue port word]
      else none
  else none

/-- One line of trace text as the lines of the model it stands for (spec/30_encoding.md R64). -/
def parseLine (c : Config) (text : String) : Option (List (Line c)) :=
  match wordsFrom [] text.toList with
  | [head] =>
    if head = "reset".toList then some [.reset]
    else if head = "settle".toList then some (Line.settle c)
    else none
  | [head, word] => lineOfTwo c head word
  | [head, first, [','], second] => lineOfThree c head first second
  | [head, first, [','], kind, value] => lineOfFour c head first kind value
  | _ => none

/-- A whole trace, one text line after another. -/
def parseTrace (c : Config) : List String → Option (List (Line c))
  | [] => some []
  | text :: rest =>
    match parseLine c text, parseTrace c rest with
    | some lines, some more => some (lines ++ more)
    | _, _ => none

end Sys2Proof.Machine
end

