-- ==== Sys2Proof/Safety.lean ====
section
/-! DEFINITION. The terms claims use: live and final states, the transitions of the spec as a relation, the invariants, the
history since the last NEW, and runs with the spec's fairness assumptions. -/

namespace Sys2Proof

/-- The condition of spec/00_scope.md R11 named by a CONFIG_INVALID fails (spec/60_exceptions.md R98). -/
def ConfigFault.Fails (c : Config) : ConfigFault → Prop
  | .cursorTooNarrow => ¬c.A < c.W
  | .elementEmpty => ¬1 ≤ c.DW
  | .noProducer => ¬1 ≤ c.P
  | .noConsumer => ¬1 ≤ c.C
  | .synchronizerTooShallow => ¬2 ≤ c.S

end Sys2Proof

namespace Sys2Proof.Machine

/-- The machine exists and holds no mark, so its agents have steps (spec/00_scope.md R11, spec/60_exceptions.md R99). -/
def State.Live (s : State) : Prop := s.cfg.check = none ∧ s.blk.faults = [] ∧ s.blk.refused = none

/-- The host has no request left in the trace: no issue, no reset, no out-of-scope form. -/
def State.hostDone (s : State) : Bool :=
  s.trace.all fun
    | .commit _ => true
    | .sync _ _ => true
    | _ => false

/-- A good final state (spec/60_exceptions.md R108). -/
def State.goodFinal (s : State) : Bool :=
  s.hostDone && decide (s.blk.pendingPorts = []) && s.blk.faults.isEmpty && s.blk.refused.isNone

/-- `t` has the configuration of `s`, and their blocks are related by `R`: a way to compare two states of one machine. -/
def State.Moves (s t : State) (R : Block s.cfg → Block s.cfg → Prop) : Prop :=
  ∃ (b : Block s.cfg) (lines : List (Line s.cfg)) (n : Nat),
    t = { cfg := s.cfg, blk := b, trace := lines, draws := n } ∧ R s.blk b

/-- The steps of the spec as a relation between blocks, every choice open: which agent, which port, which draw
(spec/00_scope.md R14, spec/60_exceptions.md R106). -/
inductive Transition {c : Config} (b : Block c) : Block c → Prop where
  /-- spec/40_push.md R65. -/
  | idleW (p : Nat) (h : b.wport[p]? = some .idle) : Transition b (b.record (.issue (.w p) .idle))
  /-- spec/41_pop.md R75. -/
  | idleR (q : Nat) (h : b.rport[q]? = some .idle) : Transition b (b.record (.issue (.r q) .idle))
  /-- spec/40_push.md R66. -/
  | issuePush (p : Nat) (v : c.Element) (h : b.wport[p]? = some .idle) : Transition b (b.issuePush p v)
  /-- spec/41_pop.md R76. -/
  | issuePop (q : Nat) (h : b.rport[q]? = some .idle) : Transition b (b.issuePop q)
  /-- spec/40_push.md R68. -/
  | acceptPush (p : Nat) (v : c.Element) (h : b.wport[p]? = some (.pending v)) (room : b.fullW = false) :
      Transition b (b.acceptPush p v)
  /-- spec/40_push.md R69. -/
  | rejectPush (p : Nat) (v : c.Element) (h : b.wport[p]? = some (.pending v)) (full : b.fullW = true) :
      Transition b (b.rejectPush p)
  /-- spec/41_pop.md R78. -/
  | acceptPop (q : Nat) (v : c.Element) (h : b.rport[q]? = some .pending) (stored : b.emptyR = false)
      (read : b.mem.read (slotOf c b.rbin) = some v) : Transition b (b.acceptPop q v)
  /-- spec/41_pop.md R79, for every draw `d`. -/
  | rejectPop (q : Nat) (d : c.Element) (h : b.rport[q]? = some .pending) (empty : b.emptyR = true) :
      Transition b (b.rejectPop q d)
  /-- spec/41_pop.md R80. -/
  | unwritten (q : Nat) (h : b.rport[q]? = some .pending) (stored : b.emptyR = false)
      (read : b.mem.read (slotOf c b.rbin) = none) :
      Transition b (b.raise (.unwrittenSlotRead (.r q) b.rbin))
  /-- spec/42_cdc_sync.md R90, for every draw `k`. -/
  | moveWsync (k : Nat) (window : k ≤ b.lagW.toNat) : Transition b (b.moveWsync k)
  /-- spec/42_cdc_sync.md R91, for every draw `k`. -/
  | moveRsync (k : Nat) (window : k ≤ b.lagR.toNat) : Transition b (b.moveRsync k)
  /-- spec/70_reset_and_hazards.md R111. -/
  | new (h : b.pendingPorts = []) : Transition b (b.cleared.record .reset)
  /-- spec/70_reset_and_hazards.md R112. -/
  | resetPending (h : b.pendingPorts ≠ []) : Transition b (b.raise (.resetWhilePending b.pendingPorts))
  /-- spec/30_encoding.md R58: an illegal word on a port of the block, whatever the port holds. -/
  | reservedCommand (port : Port) (word : c.Command) (known : port.exists c = true) (e : DecodeError)
      (illegal : decode c port word = .error e) : Transition b (b.refuse (.reservedCommand port word))
  /-- spec/60_exceptions.md R100. -/
  | unmodelledForm (form : Form) : Transition b (b.refuse (.unmodelledForm form))

/-- The events after the last Reset (spec/20_memory.md R49, "since the last NEW"). -/
def sinceNew {c : Config} (h : List (Event c)) : List (Event c) :=
  h.foldl (fun seen e => if e = .reset then [] else seen ++ [e]) []

/-- The element of an accepted PUSH commit. -/
def Event.pushed? {c : Config} : Event c → Option c.Element
  | .commit (.w _) .push count _ value => if count = 1 then value else none
  | _ => none

/-- The element of an accepted POP commit. -/
def Event.popped? {c : Config} : Event c → Option c.Element
  | .commit (.r _) .pop count _ value => if count = 1 then value else none
  | _ => none

/-- The cursor an accepted PUSH commit saw. -/
def Event.pushCursor? {c : Config} : Event c → Option c.Cursor
  | .commit (.w _) .push count cursor _ => if count = 1 then some cursor else none
  | _ => none

/-- The cursor an accepted POP commit saw. -/
def Event.popCursor? {c : Config} : Event c → Option c.Cursor
  | .commit (.r _) .pop count cursor _ => if count = 1 then some cursor else none
  | _ => none

/-- The element of a PUSH issue on producer port `p`. -/
def Event.issuedOn? {c : Config} (p : Nat) : Event c → Option c.Element
  | .issue (.w q) (.push v) => if q = p then some v else none
  | _ => none

/-- The outcome of a PUSH commit on producer port `p`: the element accepted, or `none` for a rejected one. -/
def Event.outcomeOn? {c : Config} (p : Nat) : Event c → Option (Option c.Element)
  | .commit (.w q) .push _ _ value => if q = p then some value else none
  | _ => none

/-- The elements of the accepted pushes since the last NEW, in commit order. -/
def Block.pushed {c : Config} (b : Block c) : List c.Element := (sinceNew b.history).filterMap Event.pushed?

/-- The elements of the accepted pops since the last NEW, in commit order. -/
def Block.popped {c : Config} (b : Block c) : List c.Element := (sinceNew b.history).filterMap Event.popped?

/-- The invariant of the cursors and their copies (spec/10_state.md R33, R34). -/
structure Block.ViewsInv {c : Config} (b : Block c) : Prop where
  lagW_le_occ : b.lagW.toNat ≤ b.occ.toNat
  room : b.occ.toNat + b.lagR.toNat ≤ c.N
  wgray_eq : b.wgray = gray b.wbin
  rgray_eq : b.rgray = gray b.rbin

/-- The block is a queue: what was pushed since the last NEW is what was popped, in order, followed by the elements the
`occ` slots from `rbin` on hold (spec/10_state.md R35, spec/20_memory.md R48, R49). -/
structure Block.QueueInv {c : Config} (b : Block c) : Prop where
  views : b.ViewsInv
  wbin_counts : b.wbin = BitVec.ofNat c.W b.pushed.length
  rbin_counts : b.rbin = BitVec.ofNat c.W b.popped.length
  stored : ∃ queue : List c.Element, b.pushed = b.popped ++ queue ∧ queue.length = b.occ.toNat ∧
    ∀ (j : Nat) (h : j < queue.length), b.mem.read (slotOf c (b.rbin + BitVec.ofNat c.W j)) = some queue[j]

/-- The n-th accepted push, and the n-th accepted pop, since the last NEW saw cursor n modulo 2^W (spec/40_push.md R70,
spec/41_pop.md R81). -/
structure Block.ClaimsInv {c : Config} (b : Block c) : Prop where
  pushes : (sinceNew b.history).filterMap Event.pushCursor? = (List.range b.pushed.length).map (BitVec.ofNat c.W)
  pops : (sinceNew b.history).filterMap Event.popCursor? = (List.range b.popped.length).map (BitVec.ofNat c.W)
  wbin_next : b.wbin = BitVec.ofNat c.W b.pushed.length
  rbin_next : b.rbin = BitVec.ofNat c.W b.popped.length

/-- The request a producer port holds. -/
def WPort.held {c : Config} : WPort c → List c.Element
  | .idle => []
  | .pending v => [v]

/-- Every producer port's requests since the last NEW are its outcomes in the order of its issues, followed by the request
it holds (spec/40_push.md R72, spec/10_state.md R23). -/
def Block.PortOrderInv {c : Config} (b : Block c) : Prop :=
  ∀ (p : Nat) (port : WPort c), b.wport[p]? = some port →
    ∃ done : List c.Element,
      (sinceNew b.history).filterMap (Event.issuedOn? p) = done ++ port.held ∧
      List.Forall₂ (fun v outcome => outcome = none ∨ outcome = some v) done
        ((sinceNew b.history).filterMap (Event.outcomeOn? p))

/-- The write-domain registers of two blocks agree (spec/10_state.md R15; spec/40_push.md R74). -/
def Block.sameWriteDomain {c : Config} (b b' : Block c) : Prop :=
  b.wbin = b'.wbin ∧ b.wgray = b'.wgray ∧ b.rsync = b'.rsync ∧ b.wport = b'.wport ∧ b.wresp = b'.wresp

/-- The read-domain registers of two blocks agree (spec/10_state.md R15; spec/41_pop.md R84). -/
def Block.sameReadDomain {c : Config} (b b' : Block c) : Prop :=
  b.rbin = b'.rbin ∧ b.rgray = b'.rgray ∧ b.wsync = b'.wsync ∧ b.rport = b'.rport ∧ b.rresp = b'.rresp

/-- The marks of two blocks agree. -/
def Block.sameMarks {c : Config} (b b' : Block c) : Prop := b.faults = b'.faults ∧ b.refused = b'.refused

/-- Every slot of two blocks reads the same. -/
def Block.sameSlots {c : Config} (b b' : Block c) : Prop := ∀ i, b.mem.read i = b'.mem.read i

/-- An infinite run of the machine. -/
def IsRun (run : Nat → State) : Prop := ∀ n, step (run n) = .next (run (n + 1))

/-- The progress assumption of the W2R synchronizer: when the write cursor stops changing, the copy catches up
(spec/42_cdc_sync.md R94). An assumption of claims, no rule of the machine (log entry 9). -/
def CatchesUpW2R (run : Nat → State) : Prop :=
  ∀ n, (∀ m, n ≤ m → (run (m + 1)).blk.wbin.toNat = (run m).blk.wbin.toNat) →
    ∃ m, n ≤ m ∧ (run m).blk.wsync = (run m).blk.wgray

/-- The progress assumption of the R2W synchronizer (spec/42_cdc_sync.md R94; log entry 9). -/
def CatchesUpR2W (run : Nat → State) : Prop :=
  ∀ n, (∀ m, n ≤ m → (run (m + 1)).blk.rbin.toNat = (run m).blk.rbin.toNat) →
    ∃ m, n ≤ m ∧ (run m).blk.rsync = (run m).blk.rgray

/-- A PUSH commit, accepted or rejected. -/
def Event.isPushCommit {c : Config} : Event c → Bool
  | .commit _ .push _ _ _ => true
  | _ => false

/-- A POP commit, accepted or rejected. -/
def Event.isPopCommit {c : Config} : Event c → Bool
  | .commit _ .pop _ _ _ => true
  | _ => false

/-- How many PUSH commits the history holds. -/
def State.pushCommits (s : State) : Nat := s.blk.history.countP Event.isPushCommit

/-- How many POP commits the history holds. -/
def State.popCommits (s : State) : Nat := s.blk.history.countP Event.isPopCommit

/-- The write-domain arbiter is starvation-free: a pending PUSH commits after at most `bound` other PUSH commits
(spec/40_push.md R71). An assumption of claims, no rule of the machine (log entry 9). -/
def StarvationFreeW (bound : Nat) (run : Nat → State) : Prop :=
  ∀ n p, (run n).blk.isPending (.w p) = true →
    ∃ m, n < m ∧ (run m).blk.isPending (.w p) = false ∧ (run m).pushCommits ≤ (run n).pushCommits + bound + 1

/-- The read-domain arbiter is starvation-free (spec/41_pop.md R82; log entry 9). -/
def StarvationFreeR (bound : Nat) (run : Nat → State) : Prop :=
  ∀ n q, (run n).blk.isPending (.r q) = true →
    ∃ m, n < m ∧ (run m).blk.isPending (.r q) = false ∧ (run m).popCommits ≤ (run n).popCommits + bound + 1

end Sys2Proof.Machine
end

