-- ==== Sys2Proof/Certificates/Slice0/Obligations.lean ====
section
/-! DEFINITION. The statements for the provers, from the numbered rules of spec/. Each docstring names the rules it formalises
and, where a clause is the model's own choice, the log entry that says so. Every statement holds for every configuration. -/

open Sys2Proof Sys2Proof.Machine

/-! ### Encoding -/

/-- Decoding what is presented for a well-formed instruction gives it back (spec/30_encoding.md R56, R57, R59, R62). -/
def Obligations.DecodeOfEncode : Prop :=
  ∀ (c : Config) (i : Instr), i.wf c = true → decodePresented c (encode c i) = .ok i

/-- Every word of spec/95_test_vectors.md L2-DEC-1 to L2-DEC-8 and L2-POP-8 decodes as listed there, on every port listed
beside it, and `rst == 1` selects NEW (spec/30_encoding.md R57, R58, R62). -/
def Obligations.ListedWordsDecode : Prop :=
  decode Config.table (.w 0) (0x141#10 : BitVec 10) = .ok (.push 0 0x41) ∧
  decode Config.table (.w 0) (0x100#10 : BitVec 10) = .ok (.push 0 0x00) ∧
  decode Config.table (.r 0) (0x200#10 : BitVec 10) = .ok (.pop 0) ∧
  decode Config.table (.r 0) (0x2ff#10 : BitVec 10) = .ok (.pop 0) ∧
  decode Config.table (.r 0) (0x2ab#10 : BitVec 10) = .ok (.pop 0) ∧
  decode Config.table (.w 0) (0x000#10 : BitVec 10) = .ok (.idleW 0) ∧
  decode Config.table (.w 0) (0x0ff#10 : BitVec 10) = .ok (.idleW 0) ∧
  decode Config.table (.r 0) (0x000#10 : BitVec 10) = .ok (.idleR 0) ∧
  decode Config.table (.r 0) (0x0ff#10 : BitVec 10) = .ok (.idleR 0) ∧
  decode Config.table (.w 0) (0x300#10 : BitVec 10) = .error .reservedOp ∧
  decode Config.table (.w 0) (0x3ff#10 : BitVec 10) = .error .reservedOp ∧
  decode Config.table (.r 0) (0x300#10 : BitVec 10) = .error .reservedOp ∧
  decode Config.table (.r 0) (0x3ff#10 : BitVec 10) = .error .reservedOp ∧
  decode Config.table (.w 0) (0x200#10 : BitVec 10) = .error .popOnProducer ∧
  decode Config.table (.r 0) (0x141#10 : BitVec 10) = .error .pushOnConsumer ∧
  decodePresented Config.table (.rst 1#1) = .ok .new ∧
  decode { Config.table with DW := 16 } (.w 0) (0x1abcd#18 : BitVec 18) = .ok (.push 0 0xabcd)

/-- The op field of a word is `op` exactly when the word under the mask `3 << DW` is `op << DW` (spec/30_encoding.md R57). -/
def Obligations.OpFieldIsMatchUnderMask : Prop :=
  ∀ (c : Config) (word : c.Command) (op : BitVec 2),
    opField word = op ↔ word &&& (3#(c.DW + 2) <<< c.DW) = op.setWidth (c.DW + 2) <<< c.DW

/-- Exactly the three words of spec/30_encoding.md R58 select no instruction. -/
def Obligations.OnlyIllegalWordsRejected : Prop :=
  ∀ (c : Config) (port : Port) (word : c.Command),
    (∃ e, decode c port word = .error e) ↔
      opField word = 0b11#2 ∨ (opField word = 0b10#2 ∧ ∃ p, port = .w p) ∨ (opField word = 0b01#2 ∧ ∃ q, port = .r q)

/-- The data bits of an IDLE or POP word select nothing, and those of a PUSH word are its element as it stands
(spec/30_encoding.md R59). -/
def Obligations.DataBitsOnlyForPush : Prop :=
  (∀ (c : Config) (port : Port) (word word' : c.Command), opField word = opField word' → opField word ≠ 0b01#2 →
    decode c port word = decode c port word') ∧
  (∀ (c : Config) (p : Nat) (word : c.Command), opField word = 0b01#2 →
    ∃ v, decode c (.w p) word = .ok (.push p v) ∧ elementOf c v = some (dataField word))

/-! ### A step and its instruction -/

/-- A step whose trace line presents a word that decodes to `i` is `exec i` with the line taken off the trace, and a step
whose line is `reset` is NEW (spec/30_encoding.md R57, R62, R64; the trace as a field of State is log entry 2). -/
def Obligations.StepRunsDecodedInstruction : Prop :=
  (∀ (s : State) (port : Port) (word : s.cfg.Command) (rest : List (Line s.cfg)) (i : Instr),
    s.trace = .issue port word :: rest → decode s.cfg port word = .ok i →
      step s = exec i { s with trace := rest }) ∧
  (∀ (s : State) (rest : List (Line s.cfg)), s.trace = .reset :: rest → step s = exec .new { s with trace := rest })

/-- IDLE_W and IDLE_R complete on an Idle port and change nothing but the history (spec/40_push.md R65, spec/41_pop.md R75). -/
def Obligations.IdleCompletes : Prop :=
  (∀ (s : State) (p : Nat), s.Live → s.blk.wport[p]? = some .idle →
    exec (.idleW p) s =
      .next { s with blk := { s.blk with history := s.blk.history ++ [.issue (.w p) .idle] } }) ∧
  (∀ (s : State) (q : Nat), s.Live → s.blk.rport[q]? = some .idle →
    exec (.idleR q) s =
      .next { s with blk := { s.blk with history := s.blk.history ++ [.issue (.r q) .idle] } })

/-- PUSH completes on an Idle port: the port holds the element, its response is gone, nothing else changes
(spec/40_push.md R66). -/
def Obligations.PushIssueCompletes : Prop :=
  ∀ (s : State) (p v : Nat), s.Live → v < 2 ^ s.cfg.DW → s.blk.wport[p]? = some .idle →
    exec (.push p v) s = .next { s with blk := { s.blk with
      wport := s.blk.wport.setIfInBounds p (.pending (BitVec.ofNat s.cfg.DW v))
      wresp := s.blk.wresp.setIfInBounds p none
      history := s.blk.history ++ [.issue (.w p) (.push (BitVec.ofNat s.cfg.DW v))] } }

/-- POP completes on an Idle port: the port is pending, its response is gone, nothing else changes (spec/41_pop.md R76). -/
def Obligations.PopIssueCompletes : Prop :=
  ∀ (s : State) (q : Nat), s.Live → s.blk.rport[q]? = some .idle →
    exec (.pop q) s = .next { s with blk := { s.blk with
      rport := s.blk.rport.setIfInBounds q .pending
      rresp := s.blk.rresp.setIfInBounds q none
      history := s.blk.history ++ [.issue (.r q) .pop] } }

/-- NEW completes when no request is pending: every element at its reset value, marks kept, Reset recorded, the flags
`full_w = 0` and `empty_r = 1`, the state settled (spec/70_reset_and_hazards.md R111, spec/10_state.md R36). -/
def Obligations.NewCompletes : Prop :=
  ∀ s : State, s.Live → (∀ port, s.blk.isPending port = false) →
    ∃ b : Block s.cfg, exec .new s = .next { s with blk := b } ∧
      b = { wbin := 0, wgray := 0, rbin := 0, rgray := 0, rsync := 0, wsync := 0, mem := []
            wport := Vector.replicate s.cfg.P .idle, rport := Vector.replicate s.cfg.C .idle
            wresp := Vector.replicate s.cfg.P none, rresp := Vector.replicate s.cfg.C none
            faults := s.blk.faults, refused := s.blk.refused, history := s.blk.history ++ [.reset] } ∧
      (∀ i, b.mem.read i = none) ∧ b.fullW = false ∧ b.emptyR = true ∧ b.settled = true

/-- NEW while a request is pending raises RESET_WHILE_PENDING with the list of exactly the pending ports, and changes
nothing else (spec/70_reset_and_hazards.md R112, spec/60_exceptions.md R98). -/
def Obligations.NewWhilePendingFaults : Prop :=
  ∀ s : State, s.Live → (∃ port, s.blk.isPending port = true) →
    ∃ ports : List Port, (∀ port, port ∈ ports ↔ s.blk.isPending port = true) ∧
      exec .new s = .next { s with blk := { s.blk with
        faults := [.resetWhilePending ports]
        history := s.blk.history ++ [.fault (.resetWhilePending ports)] } }

/-- The frame of the issue instructions: no cursor, Gray register, copy, slot, flag or mark changes; IDLE changes no port or
response, PUSH and POP none but those of their own port (spec/40_push.md R65, R66, R73; spec/41_pop.md R75, R76, R83). -/
def Obligations.IssueFrame : Prop :=
  ∀ (i : Instr) (s t : State), i ≠ .new → exec i s = .next t →
    ∃ b : Block s.cfg, t = { s with blk := b } ∧
      b.wbin = s.blk.wbin ∧ b.wgray = s.blk.wgray ∧ b.rbin = s.blk.rbin ∧ b.rgray = s.blk.rgray ∧
      b.rsync = s.blk.rsync ∧ b.wsync = s.blk.wsync ∧ b.sameSlots s.blk ∧ b.sameMarks s.blk ∧
      b.fullW = s.blk.fullW ∧ b.emptyR = s.blk.emptyR ∧
      (∀ p, (∀ v, i ≠ .push p v) → b.wport[p]? = s.blk.wport[p]? ∧ b.wresp[p]? = s.blk.wresp[p]?) ∧
      (∀ q, i ≠ .pop q → b.rport[q]? = s.blk.rport[q]? ∧ b.rresp[q]? = s.blk.rresp[q]?)

/-- The host has no move on a pending port, and no issue exists on a port outside the block or with an element of more
than DW bits (spec/60_exceptions.md R107, R101; the answer's name is log entry 11). -/
def Obligations.HostHasNoMoveOnPendingPort : Prop :=
  ∀ s : State, s.Live →
    (∀ p x, s.blk.wport[p]? = some (.pending x) →
      exec (.idleW p) s = .refused (.portPending (.w p)) ∧
      ∀ v, v < 2 ^ s.cfg.DW → exec (.push p v) s = .refused (.portPending (.w p))) ∧
    (∀ q, s.blk.rport[q]? = some .pending →
      exec (.idleR q) s = .refused (.portPending (.r q)) ∧ exec (.pop q) s = .refused (.portPending (.r q))) ∧
    (∀ p, s.cfg.P ≤ p → exec (.idleW p) s = .refused (.noSuchPort (.w p)) ∧
      ∀ v, v < 2 ^ s.cfg.DW → exec (.push p v) s = .refused (.noSuchPort (.w p))) ∧
    (∀ q, s.cfg.C ≤ q → exec (.idleR q) s = .refused (.noSuchPort (.r q)) ∧
      exec (.pop q) s = .refused (.noSuchPort (.r q))) ∧
    (∀ p v, 2 ^ s.cfg.DW ≤ v → exec (.push p v) s = .refused (.elementTooWide v))

/-! ### Refusals, faults and the checks of a step -/

/-- Issuing an illegal word on a port of the block, whatever the port holds, refuses RESERVED_COMMAND with the port and
the word: mark and event, nothing else (spec/30_encoding.md R58, spec/60_exceptions.md R98, R100, R101; that mark and event
carry port and word is log entry 14). -/
def Obligations.IllegalWordRefused : Prop :=
  ∀ (s : State) (port : Port) (word : s.cfg.Command) (rest : List (Line s.cfg)),
    s.Live → s.trace = .issue port word :: rest → port.exists s.cfg = true →
    (opField word = 0b11#2 ∨ (opField word = 0b10#2 ∧ ∃ p, port = .w p) ∨ (opField word = 0b01#2 ∧ ∃ q, port = .r q)) →
      step s = .next { s with
        trace := rest
        blk := { s.blk with
          refused := some (.reservedCommand port word)
          history := s.blk.history ++ [.refuse (.reservedCommand port word)] } }

/-- A line that writes an out-of-scope form refuses UNMODELLED_FORM: mark and event, nothing else
(spec/60_exceptions.md R100, spec/70_reset_and_hazards.md R113; that mark and event carry the form is log entry 14). -/
def Obligations.OutOfScopeFormRefused : Prop :=
  ∀ (s : State) (form : Form) (rest : List (Line s.cfg)), s.Live → s.trace = .outOfScope form :: rest →
    step s = .next { s with
      trace := rest
      blk := { s.blk with
        refused := some (.unmodelledForm form)
        history := s.blk.history ++ [.refuse (.unmodelledForm form)] } }

/-- From a state with a fault or refusal mark no step and no instruction, NEW included, gives a next state
(spec/60_exceptions.md R99). -/
def Obligations.MarkedStateIsQuiescent : Prop :=
  ∀ s : State, (s.blk.faults ≠ [] ∨ s.blk.refused ≠ none) →
    (∀ t, step s ≠ .next t) ∧ (∀ i t, exec i s ≠ .next t) ∧ s.goodFinal = false

/-- An ill-formed configuration is refused at construction with a condition that fails, and no machine of one has a step; a
well-formed one is constructed (spec/00_scope.md R11, spec/60_exceptions.md R98, R101; the answer of step and exec is log
entry 15). -/
def Obligations.IllFormedConfigurationRefused : Prop :=
  ∀ c : Config,
    (c.A < c.W ∧ 1 ≤ c.DW ∧ 1 ≤ c.P ∧ 1 ≤ c.C ∧ 2 ≤ c.S → construct c = .next (State.launch c)) ∧
    (¬(c.A < c.W ∧ 1 ≤ c.DW ∧ 1 ≤ c.P ∧ 1 ≤ c.C ∧ 2 ≤ c.S) →
      ∃ condition : ConfigFault, condition.Fails c ∧ construct c = .refused (.configInvalid condition) ∧
        ∀ s : State, s.cfg = c → step s = .refused (.configInvalid condition) ∧
          ∀ i, exec i s = .refused (.configInvalid condition))

/-- A step that sets a mark changes nothing else of the block but the history, and there was no mark before
(spec/60_exceptions.md R98, R99, R100). -/
def Obligations.MarkingStepWritesNothingElse : Prop :=
  ∀ s t : State, step s = .next t →
    s.Moves t fun b b' =>
      b.faults = [] ∧ b.refused = none ∧
      (b'.faults = [] ∨ ∃ f, b' = { b with faults := [f], history := b.history ++ [.fault f] }) ∧
      (b'.refused = none ∨ ∃ r, b' = { b with refused := some r, history := b.history ++ [.refuse r] })

/-- Every step appends exactly one event to the history and keeps the configuration (spec/10_state.md R30). -/
def Obligations.EveryStepRecordsOneEvent : Prop :=
  ∀ s t : State, step s = .next t → s.Moves t fun b b' => ∃ e, b'.history = b.history ++ [e]

/-! ### The commits -/

/-- An accepted PUSH commit: the slot of `wbin` holds the element, both write registers advance, the port is Idle, the
response is 1, and nothing else changes; `full_w` becomes 1 iff `occ_w + 1 == N`, `empty_r` stays (spec/40_push.md R68). -/
def Obligations.PushCommitAccepted : Prop :=
  ∀ (s : State) (p : Nat) (v : s.cfg.Element) (rest : List (Line s.cfg)),
    s.Live → s.trace = .commit (.w p) :: rest → s.blk.wport[p]? = some (.pending v) → s.blk.occW.toNat < s.cfg.N →
    ∃ b : Block s.cfg,
      step s = .next { s with trace := rest, blk := b } ∧
      b = { s.blk with
        mem := b.mem
        wbin := s.blk.wbin + 1
        wgray := gray (s.blk.wbin + 1)
        wport := s.blk.wport.setIfInBounds p .idle
        wresp := s.blk.wresp.setIfInBounds p (some 1)
        history := s.blk.history ++ [.commit (.w p) .push 1 s.blk.wbin (some v)] } ∧
      b.mem.read (s.blk.wbin.toNat % s.cfg.N) = some v ∧
      (∀ i, i ≠ s.blk.wbin.toNat % s.cfg.N → b.mem.read i = s.blk.mem.read i) ∧
      (b.fullW = true ↔ s.blk.occW.toNat + 1 = s.cfg.N) ∧ b.emptyR = s.blk.emptyR

/-- A rejected PUSH commit: the port is Idle, the response is 0, and nothing else changes, `full_w` and every slot
included (spec/40_push.md R69, R67). -/
def Obligations.PushCommitRejectedWhenFull : Prop :=
  ∀ (s : State) (p : Nat) (v : s.cfg.Element) (rest : List (Line s.cfg)),
    s.Live → s.trace = .commit (.w p) :: rest → s.blk.wport[p]? = some (.pending v) → s.cfg.N ≤ s.blk.occW.toNat →
    ∃ b : Block s.cfg,
      step s = .next { s with trace := rest, blk := b } ∧ b.fullW = true ∧ b.emptyR = s.blk.emptyR ∧
      b = { s.blk with
        wport := s.blk.wport.setIfInBounds p .idle
        wresp := s.blk.wresp.setIfInBounds p (some 0)
        history := s.blk.history ++ [.commit (.w p) .push 0 s.blk.wbin none] }

/-- An accepted POP commit: both read registers advance, the port is Idle, the response is 1 with the slot's element, and
nothing else changes, every slot included; `empty_r` becomes 1 iff `occ_r == 1`, `full_w` stays (spec/41_pop.md R78). -/
def Obligations.PopCommitAccepted : Prop :=
  ∀ (s : State) (q : Nat) (v : s.cfg.Element) (rest : List (Line s.cfg)),
    s.Live → s.trace = .commit (.r q) :: rest → s.blk.rport[q]? = some .pending → s.blk.occR ≠ 0 →
    s.blk.mem.read (s.blk.rbin.toNat % s.cfg.N) = some v →
    ∃ b : Block s.cfg,
      step s = .next { s with trace := rest, blk := b } ∧
      b = { s.blk with
        rbin := s.blk.rbin + 1
        rgray := gray (s.blk.rbin + 1)
        rport := s.blk.rport.setIfInBounds q .idle
        rresp := s.blk.rresp.setIfInBounds q (some { count := 1, data := v })
        history := s.blk.history ++ [.commit (.r q) .pop 1 s.blk.rbin (some v)] } ∧
      (b.emptyR = true ↔ s.blk.occR = 1) ∧ b.fullW = s.blk.fullW

/-- A rejected POP commit: the port is Idle, the response is 0 with some data, and nothing else changes, `empty_r` and
every slot included (spec/41_pop.md R79, R77). Nothing is said of the data: it is a free value (log entry 5). -/
def Obligations.PopCommitRejectedWhenEmpty : Prop :=
  ∀ (s : State) (q : Nat) (rest : List (Line s.cfg)),
    s.Live → s.trace = .commit (.r q) :: rest → s.blk.rport[q]? = some .pending → s.blk.occR = 0 →
    ∃ (d : s.cfg.Element) (n : Nat) (b : Block s.cfg),
      step s = .next { s with trace := rest, draws := n, blk := b } ∧ b.emptyR = true ∧ b.fullW = s.blk.fullW ∧
      b = { s.blk with
        rport := s.blk.rport.setIfInBounds q .idle
        rresp := s.blk.rresp.setIfInBounds q (some { count := 0, data := d })
        history := s.blk.history ++ [.commit (.r q) .pop 0 s.blk.rbin none] }

/-- A POP commit on an unwritten slot raises UNWRITTEN_SLOT_READ with the port and `rbin`; the port stays pending and
nothing else changes (spec/41_pop.md R80). -/
def Obligations.PopCommitOnUnwrittenSlotFaults : Prop :=
  ∀ (s : State) (q : Nat) (rest : List (Line s.cfg)),
    s.Live → s.trace = .commit (.r q) :: rest → s.blk.rport[q]? = some .pending → s.blk.occR ≠ 0 →
    s.blk.mem.read (s.blk.rbin.toNat % s.cfg.N) = none →
      step s = .next { s with
        trace := rest
        blk := { s.blk with
          faults := [.unwrittenSlotRead (.r q) s.blk.rbin]
          history := s.blk.history ++ [.fault (.unwrittenSlotRead (.r q) s.blk.rbin)] } }

/-- A commit on an Idle port, or on a port outside the block, is no step (spec/40_push.md R68, spec/41_pop.md R78,
spec/60_exceptions.md R106; the answer's name is log entry 11). -/
def Obligations.CommitNeedsPendingRequest : Prop :=
  ∀ (s : State) (port : Port) (rest : List (Line s.cfg)), s.trace = .commit port :: rest →
    s.blk.isPending port = false → ∀ t, step s ≠ .next t

/-! ### Gray code and the synchronizers -/

/-- The bits of a Gray code (spec/42_cdc_sync.md R85). -/
def Obligations.GrayBits : Prop :=
  ∀ (w : Nat) (b : BitVec w), gray b = b ^^^ (b >>> 1) ∧
    ∀ i, (gray b).getLsbD i = if i + 1 = w then b.getLsbD i else ((b.getLsbD (i + 1)) ^^ (b.getLsbD i))

/-- The bits of the decoded value, its sum of shifts, and that coding and decoding undo each other (spec/42_cdc_sync.md R86). -/
def Obligations.UngrayInvertsGray : Prop :=
  ∀ (w : Nat) (b g : BitVec w), ungray (gray b) = b ∧ gray (ungray g) = g ∧
    ungray g = (List.range w).foldl (fun x i => x ^^^ (g >>> i)) 0 ∧
    ∀ i, (ungray g).getLsbD i = if i + 1 = w then g.getLsbD i else ((ungray g).getLsbD (i + 1) ^^ g.getLsbD i)

/-- Codes of successive values differ in exactly one bit, the wrap included (spec/42_cdc_sync.md R87). -/
def Obligations.GraySuccessorDiffersInOneBit : Prop :=
  ∀ (w : Nat) (b : BitVec w), 1 ≤ w →
    (∃ i, i < w ∧ gray b ^^^ gray (b + 1) = BitVec.twoPow w i) ∧
    gray (BitVec.allOnes w) = BitVec.twoPow w (w - 1) ∧ gray (0 : BitVec w) = 0

/-- SYNC_W2R with a draw in `0 .. lagW` moves `wsync` forward by the draw and records it, nothing else changes; a draw
outside is no step; `all` is the whole lag (spec/42_cdc_sync.md R90, spec/30_encoding.md R64). -/
def Obligations.SyncW2RMovesByTheDraw : Prop :=
  ∀ (s : State) (draw : Draw) (rest : List (Line s.cfg)) (k : Nat), s.Live → s.trace = .sync .w2r draw :: rest →
    draw = .exactly k ∨ (draw = .all ∧ k = s.blk.lagW.toNat) →
      if k ≤ s.blk.lagW.toNat then
        step s = .next { s with
          trace := rest
          blk := { s.blk with
            wsync := gray (ungray s.blk.wsync + BitVec.ofNat s.cfg.W k)
            history := s.blk.history ++ [.sync .w2r (gray (ungray s.blk.wsync + BitVec.ofNat s.cfg.W k))] } }
      else ∀ t, step s ≠ .next t

/-- SYNC_R2W, the same for `rsync` (spec/42_cdc_sync.md R91, spec/30_encoding.md R64). -/
def Obligations.SyncR2WMovesByTheDraw : Prop :=
  ∀ (s : State) (draw : Draw) (rest : List (Line s.cfg)) (k : Nat), s.Live → s.trace = .sync .r2w draw :: rest →
    draw = .exactly k ∨ (draw = .all ∧ k = s.blk.lagR.toNat) →
      if k ≤ s.blk.lagR.toNat then
        step s = .next { s with
          trace := rest
          blk := { s.blk with
            rsync := gray (ungray s.blk.rsync + BitVec.ofNat s.cfg.W k)
            history := s.blk.history ++ [.sync .r2w (gray (ungray s.blk.rsync + BitVec.ofNat s.cfg.W k))] } }
      else ∀ t, step s ≠ .next t

/-- The flags after a synchronizer step: from empty, `empty_r` goes to 0 iff `k >= 1`, and from full, `full_w` goes to 0
iff `k >= 1`; the other flag stays (spec/42_cdc_sync.md R90, R91). -/
def Obligations.SyncMovesOnlyItsFlag : Prop :=
  ∀ (c : Config) (b : Block c) (k : Nat), c.A < c.W → b.ViewsInv →
    (k ≤ b.lagW.toNat → (b.moveWsync k).fullW = b.fullW ∧
      (b.emptyR = true → ((b.moveWsync k).emptyR = false ↔ 1 ≤ k)) ∧
      (b.emptyR = false → (b.moveWsync k).emptyR = false)) ∧
    (k ≤ b.lagR.toNat → (b.moveRsync k).emptyR = b.emptyR ∧
      (b.fullW = true → ((b.moveRsync k).fullW = false ↔ 1 ≤ k)) ∧
      (b.fullW = false → (b.moveRsync k).fullW = false))

/-- `settle` reaches a settled state in two steps from any live state whose Gray registers code their cursors
(spec/42_cdc_sync.md R92, spec/30_encoding.md R64). -/
def Obligations.SettleReachesSettledState : Prop :=
  ∀ (s : State) (rest : List (Line s.cfg)), s.Live → s.blk.wgray = gray s.blk.wbin → s.blk.rgray = gray s.blk.rbin →
    s.trace = Line.settle s.cfg ++ rest →
    ∃ b : Block s.cfg, core.run 2 s = .next { s with trace := rest, blk := b } ∧ b.settled = true ∧
      b = { s.blk with
        wsync := s.blk.wgray
        rsync := s.blk.rgray
        history := s.blk.history ++ [.sync .w2r s.blk.wgray, .sync .r2w s.blk.rgray] }

/-- A flip-flop chain that follows its source, clocked with any sample it can take, still follows it, and its last stage
moves as a synchronizer step with some draw in the window moves the copy (spec/42_cdc_sync.md R89). -/
def Obligations.ChainEdgeIsASynchronizerStep : Prop :=
  ∀ (c : Config) (ch : Chain c) (source sample : c.Cursor), c.check = none → ch.Follows source →
    ch.CanSample source sample →
      (ch.edge sample).Follows source ∧
      ∃ k, k ≤ (source - ungray ch.out).toNat ∧
        (ch.edge sample).out = gray (ungray ch.out + BitVec.ofNat c.W k)

/-! ### Invariants -/

/-- The state at launch meets every invariant, for every well-formed configuration and for `State.reset`
(spec/10_state.md R36, spec/70_reset_and_hazards.md R111). -/
def Obligations.LaunchMeetsEveryInvariant : Prop :=
  (∀ c : Config, (Block.launch c).QueueInv ∧ (Block.launch c).ClaimsInv ∧ (Block.launch c).PortOrderInv ∧
    (Block.launch c).mem.wf = true ∧ (c.check = none → (State.launch c).Live)) ∧
  State.reset.Live ∧ State.reset.blk.QueueInv

/-- Every step keeps the cursor invariant `lagW <= occ` and `occ + lagR <= N`, and the Gray registers the codes of their
cursors (spec/10_state.md R33, R34). -/
def Obligations.StepKeepsViewsInv : Prop :=
  ∀ s t : State, s.blk.ViewsInv → step s = .next t → t.blk.ViewsInv

/-- Every step keeps the block a queue: the pops since the last NEW returned the elements of the pushes in order, and the
rest lie in the slots from `rbin` on (spec/10_state.md R35, spec/20_memory.md R48, R49). -/
def Obligations.StepKeepsQueueInv : Prop :=
  ∀ s t : State, s.blk.QueueInv → step s = .next t → t.blk.QueueInv

/-- Every step keeps the cursors of accepted pushes, and of accepted pops, consecutive from 0 modulo 2^W
(spec/40_push.md R70, spec/41_pop.md R81). -/
def Obligations.StepKeepsClaimsConsecutive : Prop :=
  ∀ s t : State, s.blk.ClaimsInv → step s = .next t → t.blk.ClaimsInv

/-- Every step keeps each producer port's outcomes in the order of its issues (spec/40_push.md R72). -/
def Obligations.StepKeepsPerProducerOrder : Prop :=
  ∀ s t : State, s.blk.PortOrderInv → step s = .next t → t.blk.PortOrderInv

/-- Every step keeps the storage in its canonical form, slots rising and in `0 .. N-1` (spec/10_state.md R22,
spec/20_memory.md R41; the form is log entry 13). -/
def Obligations.StepKeepsMemoryCanonical : Prop :=
  ∀ s t : State, s.blk.mem.wf = true → step s = .next t → t.blk.mem.wf = true

/-- Under the cursor invariant the views are the sums of spec/10_state.md R33, they are conservative
(spec/42_cdc_sync.md R93), and `full_w` holds exactly when `occ_w == N` (spec/10_state.md R27). -/
def Obligations.ViewsAreConservative : Prop :=
  ∀ (c : Config) (b : Block c), c.A < c.W → b.ViewsInv →
    b.occW.toNat = b.occ.toNat + b.lagR.toNat ∧ b.occR.toNat + b.lagW.toNat = b.occ.toNat ∧
    b.occR.toNat ≤ b.occ.toNat ∧ b.occ.toNat ≤ b.occW.toNat ∧ b.occW.toNat ≤ c.N ∧
    (b.fullW = true ↔ b.occW.toNat = c.N) ∧
    (b.fullW = false → b.occ.toNat < c.N) ∧ (b.emptyR = false → 1 ≤ b.occ.toNat)

/-- In a settled state both views are the true occupancy, so the flags are the source's full and empty
(spec/42_cdc_sync.md R92). -/
def Obligations.SettledViewsAreTrue : Prop :=
  ∀ (c : Config) (b : Block c), c.A < c.W → b.ViewsInv →
    (b.settled = true ↔ b.lagW = 0 ∧ b.lagR = 0) ∧
    (b.settled = true → b.occW = b.occ ∧ b.occR = b.occ ∧ (b.fullW = true ↔ b.occ.toNat = c.N) ∧
      (b.emptyR = true ↔ b.wbin = b.rbin))

/-- In a queue every slot the read domain's view covers is written, so no step raises UNWRITTEN_SLOT_READ
(spec/20_memory.md R45, R46; spec/41_pop.md R80). -/
def Obligations.UnwrittenSlotIsNeverRead : Prop :=
  ∀ s : State, s.cfg.A < s.cfg.W → s.blk.QueueInv →
    (∀ j, j < s.blk.occR.toNat →
      (s.blk.mem.read (slotOf s.cfg (s.blk.rbin + BitVec.ofNat s.cfg.W j))).isSome = true) ∧
    ∀ t, step s = .next t → s.Moves t fun _ b' => ∀ port cursor, FaultMark.unwrittenSlotRead port cursor ∉ b'.faults

/-- An accepted push overwrites no element not yet returned: the `occ` slots that hold them are distinct, the slot of `wbin` is
none of them when `full_w` is 0, and every step but NEW, an accepted PUSH commit with its store included, leaves each of
them as it was (spec/20_memory.md R47, spec/10_state.md R35). -/
def Obligations.AcceptedPushOverwritesNoElement : Prop :=
  (∀ (c : Config) (b : Block c), c.A < c.W → b.ViewsInv →
    (∀ i j, i < j → j < b.occ.toNat →
      slotOf c (b.rbin + BitVec.ofNat c.W i) ≠ slotOf c (b.rbin + BitVec.ofNat c.W j)) ∧
    (b.fullW = false → ∀ j, j < b.occ.toNat → slotOf c (b.rbin + BitVec.ofNat c.W j) ≠ slotOf c b.wbin)) ∧
  ∀ s t : State, s.blk.ViewsInv → step s = .next t →
    s.Moves t fun b b' => ∃ e, b'.history = b.history ++ [e] ∧
      (∀ p cursor v, e = .commit (.w p) .push 1 cursor (some v) →
        cursor = b.wbin ∧ b'.mem.read (slotOf s.cfg b.wbin) = some v) ∧
      (e ≠ .reset → ∀ j, j < b.occ.toNat →
        b'.mem.read (slotOf s.cfg (b.rbin + BitVec.ofNat s.cfg.W j)) =
          b.mem.read (slotOf s.cfg (b.rbin + BitVec.ofNat s.cfg.W j)))

/-- With `a` accepted pushes and `n` accepted pops since the last NEW, `n <= a <= n + N` and `occ == (a - n) mod 2^W`; with
`occ == 0` every element pushed was popped, in order (spec/20_memory.md R49). -/
def Obligations.ElementsAreConserved : Prop :=
  ∀ (c : Config) (b : Block c), c.A < c.W → b.QueueInv →
    b.popped.length ≤ b.pushed.length ∧ b.pushed.length ≤ b.popped.length + c.N ∧
    b.occ = BitVec.ofNat c.W (b.pushed.length - b.popped.length) ∧
    b.popped <+: b.pushed ∧ (b.occ = 0 → b.popped = b.pushed)

/-! ### Who writes what, and what a domain can see -/

/-- Only an accepted PUSH and NEW write the write cursor and its Gray code, a slot only an accepted PUSH (and NEW), and only
an accepted POP and NEW the read cursor and its Gray code (spec/10_state.md R17, R18, R19, R22; spec/40_push.md R73;
spec/41_pop.md R83). -/
def Obligations.OnlyCommitsAndNewMoveCursors : Prop :=
  ∀ s t : State, step s = .next t →
    s.Moves t fun b b' => ∃ e, b'.history = b.history ++ [e] ∧
      (e = .reset ∨
        ((b'.wbin = b.wbin ∧ b'.wgray = b.wgray ∧ b'.sameSlots b) ∨
          ∃ p v, e = .commit (.w p) .push 1 b.wbin (some v) ∧ b'.wbin = b.wbin + 1 ∧ b'.wgray = gray (b.wbin + 1) ∧
            b'.mem.read (slotOf s.cfg b.wbin) = some v ∧
            ∀ i, i ≠ slotOf s.cfg b.wbin → b'.mem.read i = b.mem.read i)) ∧
      (e = .reset ∨
        ((b'.rbin = b.rbin ∧ b'.rgray = b.rgray) ∨
          ∃ q v, e = .commit (.r q) .pop 1 b.rbin (some v) ∧ b'.rbin = b.rbin + 1 ∧ b'.rgray = gray (b.rbin + 1) ∧
            b.mem.read (slotOf s.cfg b.rbin) = some v))

/-- Only the W2R synchronizer and NEW write `wsync`, only the R2W synchronizer and NEW write `rsync`, and a synchronizer step
never moves its copy away from its source: the lag does not grow (spec/10_state.md R20, R21;
spec/42_cdc_sync.md R93). -/
def Obligations.OnlySynchronizersMoveCopies : Prop :=
  ∀ s t : State, step s = .next t →
    s.Moves t fun b b' => ∃ e, b'.history = b.history ++ [e] ∧
      (e = .reset ∨ b'.wsync = b.wsync ∨ (e = .sync .w2r b'.wsync ∧ b'.lagW.toNat ≤ b.lagW.toNat)) ∧
      (e = .reset ∨ b'.rsync = b.rsync ∨ (e = .sync .r2w b'.rsync ∧ b'.lagR.toNat ≤ b.lagR.toNat))

/-- A step on a producer port depends on the write domain alone: from two states that agree there and in their marks, it
gives states that agree there, it leaves each state's read domain, and it writes the same slot with the same element
(spec/40_push.md R74). -/
def Obligations.PushStepsSeeWriteDomainOnly : Prop :=
  ∀ (c : Config) (b₁ b₂ : Block c) (rest : List (Line c)) (l : Line c) (n₁ n₂ : Nat) (t₁ : State) (p : Nat),
    (l = .commit (.w p) ∨ ∃ word, l = .issue (.w p) word) →
    b₁.sameWriteDomain b₂ → b₁.sameMarks b₂ →
    step { cfg := c, blk := b₁, trace := l :: rest, draws := n₁ } = .next t₁ →
    ∃ b₁' b₂' : Block c,
      t₁ = { cfg := c, blk := b₁', trace := rest, draws := n₁ } ∧
      step { cfg := c, blk := b₂, trace := l :: rest, draws := n₂ } =
        .next { cfg := c, blk := b₂', trace := rest, draws := n₂ } ∧
      b₁'.sameWriteDomain b₂' ∧ b₁'.sameMarks b₂' ∧ b₁'.sameReadDomain b₁ ∧ b₂'.sameReadDomain b₂ ∧
      ∀ i, b₁.mem.read i = b₂.mem.read i → b₁'.mem.read i = b₂'.mem.read i

/-- A step on a consumer port depends on the read domain and the slot of `rbin` alone: from two states that agree there, in
their marks and in their free-value counter, it gives states that agree in the read domain, and it leaves each state's
write domain and every slot (spec/41_pop.md R84; the counter is log entry 5). -/
def Obligations.PopStepsSeeReadDomainOnly : Prop :=
  ∀ (c : Config) (b₁ b₂ : Block c) (rest : List (Line c)) (l : Line c) (n : Nat) (t₁ : State) (q : Nat),
    (l = .commit (.r q) ∨ ∃ word, l = .issue (.r q) word) →
    b₁.sameReadDomain b₂ → b₁.sameMarks b₂ → b₁.mem.read (slotOf c b₁.rbin) = b₂.mem.read (slotOf c b₁.rbin) →
    step { cfg := c, blk := b₁, trace := l :: rest, draws := n } = .next t₁ →
    ∃ (b₁' b₂' : Block c) (n' : Nat),
      t₁ = { cfg := c, blk := b₁', trace := rest, draws := n' } ∧
      step { cfg := c, blk := b₂, trace := l :: rest, draws := n } =
        .next { cfg := c, blk := b₂', trace := rest, draws := n' } ∧
      b₁'.sameReadDomain b₂' ∧ b₁'.sameMarks b₂' ∧ b₁'.sameWriteDomain b₁ ∧ b₂'.sameWriteDomain b₂ ∧
      b₁'.sameSlots b₁ ∧ b₂'.sameSlots b₂

/-! ### Every order, every agent -/

/-- Two pending producers may commit in either order; with room for both, the first takes the slot of `wbin` and the second
the slot after it, whichever goes first (spec/40_push.md R71). -/
def Obligations.EitherProducerMayCommitFirst : Prop :=
  ∀ (s : State) (p q : Nat) (v u : s.cfg.Element) (rest : List (Line s.cfg)), s.Live → p ≠ q →
    s.blk.wport[p]? = some (.pending v) → s.blk.wport[q]? = some (.pending u) → s.blk.occW.toNat + 2 ≤ s.cfg.N →
    s.trace = .commit (.w p) :: .commit (.w q) :: rest →
    ∃ t, core.run 2 s = .next t ∧ s.Moves t fun b b' =>
      b'.history = b.history ++ [.commit (.w p) .push 1 b.wbin (some v), .commit (.w q) .push 1 (b.wbin + 1) (some u)] ∧
      b'.wbin = b.wbin + 2 ∧ b'.mem.read (slotOf s.cfg b.wbin) = some v ∧
      b'.mem.read (slotOf s.cfg (b.wbin + 1)) = some u ∧
      b'.wresp[p]? = some (some 1) ∧ b'.wresp[q]? = some (some 1)

/-- With no trace line left, a live machine still steps, and the step is an agent's: a commit, a synchronizer step or the
fault of a commit, never the host's (spec/60_exceptions.md R106; which agent is a free value, log entry 3). -/
def Obligations.AgentsStepWithoutTheHost : Prop :=
  ∀ s : State, s.Live → s.trace = [] → ∃ t, step s = .next t ∧ t.trace.length = 0 ∧
    s.Moves t fun b b' => ∃ e, b'.history = b.history ++ [e] ∧
      ((∃ port kind count cursor value, e = .commit port kind count cursor value) ∨ (∃ dir g, e = .sync dir g) ∨
        ∃ port, e = .fault (.unwrittenSlotRead port b.rbin))

/-- Every transition of the spec is a step of the machine under some trace line, for every order and draw: the machine
refuses none of them. Only the data of a rejected POP is the machine's own free draw (spec/00_scope.md R14,
spec/60_exceptions.md R106, spec/40_push.md R71, spec/41_pop.md R82; log entries 2 and 5). -/
def Obligations.EveryTransitionIsAStep : Prop :=
  ∀ (s : State) (b' : Block s.cfg) (rest : List (Line s.cfg)), s.Live → Transition s.blk b' →
    ∃ (l : Line s.cfg) (b : Block s.cfg) (n : Nat),
      step { s with trace := l :: rest } = .next { s with trace := rest, blk := b, draws := n } ∧
      (b = b' ∨ ∃ q d d', b' = s.blk.rejectPop q d' ∧ b = s.blk.rejectPop q d)

/-- Under the progress assumption of a synchronizer, once its source cursor stops changing the copy is up to date from some
step on and stays so (spec/42_cdc_sync.md R94; the assumption is log entry 9). -/
def Obligations.StoppedCursorIsSeenForGood : Prop :=
  ∀ (run : Nat → State) (n : Nat), IsRun run → (run 0).blk.ViewsInv →
    (CatchesUpW2R run → (∀ m, n ≤ m → (run (m + 1)).blk.wbin.toNat = (run m).blk.wbin.toNat) →
      ∃ m, n ≤ m ∧ ∀ j, m ≤ j → (run j).blk.wsync = (run j).blk.wgray) ∧
    (CatchesUpR2W run → (∀ m, n ≤ m → (run (m + 1)).blk.rbin.toNat = (run m).blk.rbin.toNat) →
      ∃ m, n ≤ m ∧ ∀ j, m ≤ j → (run j).blk.rsync = (run j).blk.rgray)

/-- Under a starvation-free write-domain arbiter every pending PUSH is answered, after at most `bound` other PUSH commits
(spec/40_push.md R71; the assumption is log entry 9). -/
def Obligations.PendingPushIsAnswered : Prop :=
  ∀ (run : Nat → State) (bound n p : Nat), IsRun run → StarvationFreeW bound run →
    (run n).blk.isPending (.w p) = true →
      ∃ m count, n < m ∧ (run m).blk.wresp[p]? = some (some count) ∧
        (run m).pushCommits ≤ (run n).pushCommits + bound + 1

/-- Under a starvation-free read-domain arbiter every pending POP is answered, after at most `bound` other POP commits,
unless the run ends in a fault, which an infinite run does not (spec/41_pop.md R82; the assumption is log entry 9). -/
def Obligations.PendingPopIsAnswered : Prop :=
  ∀ (run : Nat → State) (bound n q : Nat), IsRun run → StarvationFreeR bound run →
    (run n).blk.isPending (.r q) = true →
      ∃ m response, n < m ∧ (run m).blk.rresp[q]? = some (some response) ∧
        (run m).popCommits ≤ (run n).popCommits + bound + 1

/-! ### What the host reads -/

/-- The response words: bit 0 of WRESP is the count; bit DW of RRESP is the count and its low DW bits the data; an issue
takes the word away (spec/30_encoding.md R60, R61). -/
def Obligations.ResponseWords : Prop :=
  ∀ (c : Config) (b : Block c),
    (∀ p count, b.wresp[p]? = some (some count) → b.wrespWord p = some count) ∧
    (∀ q r, b.rresp[q]? = some (some r) →
      ∃ word, b.rrespWord q = some word ∧ word.extractLsb' c.DW 1 = r.count ∧ word.extractLsb' 0 c.DW = r.data) ∧
    (∀ p v, (b.issuePush p v).wrespWord p = none) ∧ (∀ q, (b.issuePop q).rrespWord q = none)

/-- The handshake: the request goes up exactly at the issue of a PUSH or POP, with `done` down; the commit, and nothing else,
pulses `done`, with the count, and takes the request down (spec/30_encoding.md R53, R54, R55). That the pulse lasts until
the next step, and that the request is down while `done` is up, are log entry 8. -/
def Obligations.HandshakeSignals : Prop :=
  ∀ s t : State, step s = .next t →
    s.Moves t fun b b' => ∃ e, b'.history = b.history ++ [e] ∧
      (∀ p, ((b.pushReq p = false ∧ b'.pushReq p = true) ↔ ∃ v, e = .issue (.w p) (.push v)) ∧
        (b'.pushDone p = true ↔ ∃ kind count cursor value, e = .commit (.w p) kind count cursor value) ∧
        (b'.pushDone p = true ↔ b.pushReq p = true ∧ b'.pushReq p = false) ∧
        (b'.pushDone p = true → ∃ count, b'.pushCount p = some count ∧ (count = 0 ↔ b.fullW = true))) ∧
      (∀ q, ((b.popReq q = false ∧ b'.popReq q = true) ↔ e = .issue (.r q) .pop) ∧
        (b'.popDone q = true ↔ ∃ kind count cursor value, e = .commit (.r q) kind count cursor value) ∧
        (b'.popDone q = true ↔ b.popReq q = true ∧ b'.popReq q = false) ∧
        (b'.popDone q = true → ∃ count, b'.popCount q = some count ∧ (count = 0 ↔ b.emptyR = true)))

/-- The data of the handshake: the issue of a PUSH drives `push_data` with its element, which stays until the commit; a push
answered with count 1 stores that element; `pop_data` is there with `pop_done`, and with count 1 it is the element of the
slot of `rbin` (spec/30_encoding.md R53, R54, R55). Of `pop_data` with count 0 nothing more is said (log entry 5). -/
def Obligations.HandshakeData : Prop :=
  ∀ s t : State, step s = .next t →
    s.Moves t fun b b' => ∃ e, b'.history = b.history ++ [e] ∧
      (∀ p, (∀ v, e = .issue (.w p) (.push v) → b'.pushData p = some v) ∧
        (b.pushReq p = true → b'.pushReq p = true → b'.pushData p = b.pushData p) ∧
        (b'.pushCount p = some 1 →
          ∃ v, b.pushData p = some v ∧ b'.mem.read (slotOf s.cfg b.wbin) = some v)) ∧
      (∀ q, (b'.popDone q = true → ∃ v, b'.popData q = some v) ∧
        (b'.popCount q = some 1 →
          ∃ v, b'.popData q = some v ∧ b.mem.read (slotOf s.cfg b.rbin) = some v))
end

