-- ==== Sys2Proof/Laws/State.lean ====
section
/-! SUPPORT. What every named update leaves in every field of the block, and what the updates of State leave. -/

namespace Sys2Proof.Machine

variable {c : Config} (b : Block c)

@[simp] theorem Block.record_wbin (e : Event c) : (b.record e).wbin = b.wbin := rfl
@[simp] theorem Block.record_wgray (e : Event c) : (b.record e).wgray = b.wgray := rfl
@[simp] theorem Block.record_rbin (e : Event c) : (b.record e).rbin = b.rbin := rfl
@[simp] theorem Block.record_rgray (e : Event c) : (b.record e).rgray = b.rgray := rfl
@[simp] theorem Block.record_rsync (e : Event c) : (b.record e).rsync = b.rsync := rfl
@[simp] theorem Block.record_wsync (e : Event c) : (b.record e).wsync = b.wsync := rfl
@[simp] theorem Block.record_mem (e : Event c) : (b.record e).mem = b.mem := rfl
@[simp] theorem Block.record_wport (e : Event c) : (b.record e).wport = b.wport := rfl
@[simp] theorem Block.record_rport (e : Event c) : (b.record e).rport = b.rport := rfl
@[simp] theorem Block.record_wresp (e : Event c) : (b.record e).wresp = b.wresp := rfl
@[simp] theorem Block.record_rresp (e : Event c) : (b.record e).rresp = b.rresp := rfl
@[simp] theorem Block.record_faults (e : Event c) : (b.record e).faults = b.faults := rfl
@[simp] theorem Block.record_refused (e : Event c) : (b.record e).refused = b.refused := rfl
@[simp] theorem Block.record_history (e : Event c) : (b.record e).history = b.history ++ [e] := rfl

@[simp] theorem Block.setWrite_wbin (k : c.Cursor) : (b.setWrite k).wbin = k := rfl
@[simp] theorem Block.setWrite_wgray (k : c.Cursor) : (b.setWrite k).wgray = gray k := rfl
@[simp] theorem Block.setWrite_rbin (k : c.Cursor) : (b.setWrite k).rbin = b.rbin := rfl
@[simp] theorem Block.setWrite_rgray (k : c.Cursor) : (b.setWrite k).rgray = b.rgray := rfl
@[simp] theorem Block.setWrite_rsync (k : c.Cursor) : (b.setWrite k).rsync = b.rsync := rfl
@[simp] theorem Block.setWrite_wsync (k : c.Cursor) : (b.setWrite k).wsync = b.wsync := rfl
@[simp] theorem Block.setWrite_mem (k : c.Cursor) : (b.setWrite k).mem = b.mem := rfl
@[simp] theorem Block.setWrite_wport (k : c.Cursor) : (b.setWrite k).wport = b.wport := rfl
@[simp] theorem Block.setWrite_rport (k : c.Cursor) : (b.setWrite k).rport = b.rport := rfl
@[simp] theorem Block.setWrite_wresp (k : c.Cursor) : (b.setWrite k).wresp = b.wresp := rfl
@[simp] theorem Block.setWrite_rresp (k : c.Cursor) : (b.setWrite k).rresp = b.rresp := rfl
@[simp] theorem Block.setWrite_faults (k : c.Cursor) : (b.setWrite k).faults = b.faults := rfl
@[simp] theorem Block.setWrite_refused (k : c.Cursor) : (b.setWrite k).refused = b.refused := rfl
@[simp] theorem Block.setWrite_history (k : c.Cursor) : (b.setWrite k).history = b.history := rfl

@[simp] theorem Block.setRead_wbin (k : c.Cursor) : (b.setRead k).wbin = b.wbin := rfl
@[simp] theorem Block.setRead_wgray (k : c.Cursor) : (b.setRead k).wgray = b.wgray := rfl
@[simp] theorem Block.setRead_rbin (k : c.Cursor) : (b.setRead k).rbin = k := rfl
@[simp] theorem Block.setRead_rgray (k : c.Cursor) : (b.setRead k).rgray = gray k := rfl
@[simp] theorem Block.setRead_rsync (k : c.Cursor) : (b.setRead k).rsync = b.rsync := rfl
@[simp] theorem Block.setRead_wsync (k : c.Cursor) : (b.setRead k).wsync = b.wsync := rfl
@[simp] theorem Block.setRead_mem (k : c.Cursor) : (b.setRead k).mem = b.mem := rfl
@[simp] theorem Block.setRead_wport (k : c.Cursor) : (b.setRead k).wport = b.wport := rfl
@[simp] theorem Block.setRead_rport (k : c.Cursor) : (b.setRead k).rport = b.rport := rfl
@[simp] theorem Block.setRead_wresp (k : c.Cursor) : (b.setRead k).wresp = b.wresp := rfl
@[simp] theorem Block.setRead_rresp (k : c.Cursor) : (b.setRead k).rresp = b.rresp := rfl
@[simp] theorem Block.setRead_faults (k : c.Cursor) : (b.setRead k).faults = b.faults := rfl
@[simp] theorem Block.setRead_refused (k : c.Cursor) : (b.setRead k).refused = b.refused := rfl
@[simp] theorem Block.setRead_history (k : c.Cursor) : (b.setRead k).history = b.history := rfl

@[simp] theorem Block.setWsync_wbin (g : c.Cursor) : (b.setWsync g).wbin = b.wbin := rfl
@[simp] theorem Block.setWsync_wgray (g : c.Cursor) : (b.setWsync g).wgray = b.wgray := rfl
@[simp] theorem Block.setWsync_rbin (g : c.Cursor) : (b.setWsync g).rbin = b.rbin := rfl
@[simp] theorem Block.setWsync_rgray (g : c.Cursor) : (b.setWsync g).rgray = b.rgray := rfl
@[simp] theorem Block.setWsync_rsync (g : c.Cursor) : (b.setWsync g).rsync = b.rsync := rfl
@[simp] theorem Block.setWsync_wsync (g : c.Cursor) : (b.setWsync g).wsync = g := rfl
@[simp] theorem Block.setWsync_mem (g : c.Cursor) : (b.setWsync g).mem = b.mem := rfl
@[simp] theorem Block.setWsync_wport (g : c.Cursor) : (b.setWsync g).wport = b.wport := rfl
@[simp] theorem Block.setWsync_rport (g : c.Cursor) : (b.setWsync g).rport = b.rport := rfl
@[simp] theorem Block.setWsync_wresp (g : c.Cursor) : (b.setWsync g).wresp = b.wresp := rfl
@[simp] theorem Block.setWsync_rresp (g : c.Cursor) : (b.setWsync g).rresp = b.rresp := rfl
@[simp] theorem Block.setWsync_faults (g : c.Cursor) : (b.setWsync g).faults = b.faults := rfl
@[simp] theorem Block.setWsync_refused (g : c.Cursor) : (b.setWsync g).refused = b.refused := rfl
@[simp] theorem Block.setWsync_history (g : c.Cursor) : (b.setWsync g).history = b.history := rfl

@[simp] theorem Block.setRsync_wbin (g : c.Cursor) : (b.setRsync g).wbin = b.wbin := rfl
@[simp] theorem Block.setRsync_wgray (g : c.Cursor) : (b.setRsync g).wgray = b.wgray := rfl
@[simp] theorem Block.setRsync_rbin (g : c.Cursor) : (b.setRsync g).rbin = b.rbin := rfl
@[simp] theorem Block.setRsync_rgray (g : c.Cursor) : (b.setRsync g).rgray = b.rgray := rfl
@[simp] theorem Block.setRsync_rsync (g : c.Cursor) : (b.setRsync g).rsync = g := rfl
@[simp] theorem Block.setRsync_wsync (g : c.Cursor) : (b.setRsync g).wsync = b.wsync := rfl
@[simp] theorem Block.setRsync_mem (g : c.Cursor) : (b.setRsync g).mem = b.mem := rfl
@[simp] theorem Block.setRsync_wport (g : c.Cursor) : (b.setRsync g).wport = b.wport := rfl
@[simp] theorem Block.setRsync_rport (g : c.Cursor) : (b.setRsync g).rport = b.rport := rfl
@[simp] theorem Block.setRsync_wresp (g : c.Cursor) : (b.setRsync g).wresp = b.wresp := rfl
@[simp] theorem Block.setRsync_rresp (g : c.Cursor) : (b.setRsync g).rresp = b.rresp := rfl
@[simp] theorem Block.setRsync_faults (g : c.Cursor) : (b.setRsync g).faults = b.faults := rfl
@[simp] theorem Block.setRsync_refused (g : c.Cursor) : (b.setRsync g).refused = b.refused := rfl
@[simp] theorem Block.setRsync_history (g : c.Cursor) : (b.setRsync g).history = b.history := rfl

@[simp] theorem Block.store_wbin (i : Nat) (v : c.Element) : (b.store i v).wbin = b.wbin := rfl
@[simp] theorem Block.store_wgray (i : Nat) (v : c.Element) : (b.store i v).wgray = b.wgray := rfl
@[simp] theorem Block.store_rbin (i : Nat) (v : c.Element) : (b.store i v).rbin = b.rbin := rfl
@[simp] theorem Block.store_rgray (i : Nat) (v : c.Element) : (b.store i v).rgray = b.rgray := rfl
@[simp] theorem Block.store_rsync (i : Nat) (v : c.Element) : (b.store i v).rsync = b.rsync := rfl
@[simp] theorem Block.store_wsync (i : Nat) (v : c.Element) : (b.store i v).wsync = b.wsync := rfl
@[simp] theorem Block.store_mem (i : Nat) (v : c.Element) : (b.store i v).mem = b.mem.write i v := rfl
@[simp] theorem Block.store_wport (i : Nat) (v : c.Element) : (b.store i v).wport = b.wport := rfl
@[simp] theorem Block.store_rport (i : Nat) (v : c.Element) : (b.store i v).rport = b.rport := rfl
@[simp] theorem Block.store_wresp (i : Nat) (v : c.Element) : (b.store i v).wresp = b.wresp := rfl
@[simp] theorem Block.store_rresp (i : Nat) (v : c.Element) : (b.store i v).rresp = b.rresp := rfl
@[simp] theorem Block.store_faults (i : Nat) (v : c.Element) : (b.store i v).faults = b.faults := rfl
@[simp] theorem Block.store_refused (i : Nat) (v : c.Element) : (b.store i v).refused = b.refused := rfl
@[simp] theorem Block.store_history (i : Nat) (v : c.Element) : (b.store i v).history = b.history := rfl

@[simp] theorem Block.setWport_wbin (p : Nat) (x : WPort c) : (b.setWport p x).wbin = b.wbin := rfl
@[simp] theorem Block.setWport_wgray (p : Nat) (x : WPort c) : (b.setWport p x).wgray = b.wgray := rfl
@[simp] theorem Block.setWport_rbin (p : Nat) (x : WPort c) : (b.setWport p x).rbin = b.rbin := rfl
@[simp] theorem Block.setWport_rgray (p : Nat) (x : WPort c) : (b.setWport p x).rgray = b.rgray := rfl
@[simp] theorem Block.setWport_rsync (p : Nat) (x : WPort c) : (b.setWport p x).rsync = b.rsync := rfl
@[simp] theorem Block.setWport_wsync (p : Nat) (x : WPort c) : (b.setWport p x).wsync = b.wsync := rfl
@[simp] theorem Block.setWport_mem (p : Nat) (x : WPort c) : (b.setWport p x).mem = b.mem := rfl
@[simp] theorem Block.setWport_wport (p : Nat) (x : WPort c) : (b.setWport p x).wport = b.wport.setIfInBounds p x := rfl
@[simp] theorem Block.setWport_rport (p : Nat) (x : WPort c) : (b.setWport p x).rport = b.rport := rfl
@[simp] theorem Block.setWport_wresp (p : Nat) (x : WPort c) : (b.setWport p x).wresp = b.wresp := rfl
@[simp] theorem Block.setWport_rresp (p : Nat) (x : WPort c) : (b.setWport p x).rresp = b.rresp := rfl
@[simp] theorem Block.setWport_faults (p : Nat) (x : WPort c) : (b.setWport p x).faults = b.faults := rfl
@[simp] theorem Block.setWport_refused (p : Nat) (x : WPort c) : (b.setWport p x).refused = b.refused := rfl
@[simp] theorem Block.setWport_history (p : Nat) (x : WPort c) : (b.setWport p x).history = b.history := rfl

@[simp] theorem Block.setRport_wbin (q : Nat) (x : RPort) : (b.setRport q x).wbin = b.wbin := rfl
@[simp] theorem Block.setRport_wgray (q : Nat) (x : RPort) : (b.setRport q x).wgray = b.wgray := rfl
@[simp] theorem Block.setRport_rbin (q : Nat) (x : RPort) : (b.setRport q x).rbin = b.rbin := rfl
@[simp] theorem Block.setRport_rgray (q : Nat) (x : RPort) : (b.setRport q x).rgray = b.rgray := rfl
@[simp] theorem Block.setRport_rsync (q : Nat) (x : RPort) : (b.setRport q x).rsync = b.rsync := rfl
@[simp] theorem Block.setRport_wsync (q : Nat) (x : RPort) : (b.setRport q x).wsync = b.wsync := rfl
@[simp] theorem Block.setRport_mem (q : Nat) (x : RPort) : (b.setRport q x).mem = b.mem := rfl
@[simp] theorem Block.setRport_wport (q : Nat) (x : RPort) : (b.setRport q x).wport = b.wport := rfl
@[simp] theorem Block.setRport_rport (q : Nat) (x : RPort) : (b.setRport q x).rport = b.rport.setIfInBounds q x := rfl
@[simp] theorem Block.setRport_wresp (q : Nat) (x : RPort) : (b.setRport q x).wresp = b.wresp := rfl
@[simp] theorem Block.setRport_rresp (q : Nat) (x : RPort) : (b.setRport q x).rresp = b.rresp := rfl
@[simp] theorem Block.setRport_faults (q : Nat) (x : RPort) : (b.setRport q x).faults = b.faults := rfl
@[simp] theorem Block.setRport_refused (q : Nat) (x : RPort) : (b.setRport q x).refused = b.refused := rfl
@[simp] theorem Block.setRport_history (q : Nat) (x : RPort) : (b.setRport q x).history = b.history := rfl

@[simp] theorem Block.setWresp_wbin (p : Nat) (x : Option Count) : (b.setWresp p x).wbin = b.wbin := rfl
@[simp] theorem Block.setWresp_wgray (p : Nat) (x : Option Count) : (b.setWresp p x).wgray = b.wgray := rfl
@[simp] theorem Block.setWresp_rbin (p : Nat) (x : Option Count) : (b.setWresp p x).rbin = b.rbin := rfl
@[simp] theorem Block.setWresp_rgray (p : Nat) (x : Option Count) : (b.setWresp p x).rgray = b.rgray := rfl
@[simp] theorem Block.setWresp_rsync (p : Nat) (x : Option Count) : (b.setWresp p x).rsync = b.rsync := rfl
@[simp] theorem Block.setWresp_wsync (p : Nat) (x : Option Count) : (b.setWresp p x).wsync = b.wsync := rfl
@[simp] theorem Block.setWresp_mem (p : Nat) (x : Option Count) : (b.setWresp p x).mem = b.mem := rfl
@[simp] theorem Block.setWresp_wport (p : Nat) (x : Option Count) : (b.setWresp p x).wport = b.wport := rfl
@[simp] theorem Block.setWresp_rport (p : Nat) (x : Option Count) : (b.setWresp p x).rport = b.rport := rfl
@[simp] theorem Block.setWresp_wresp (p : Nat) (x : Option Count) : (b.setWresp p x).wresp = b.wresp.setIfInBounds p x := rfl
@[simp] theorem Block.setWresp_rresp (p : Nat) (x : Option Count) : (b.setWresp p x).rresp = b.rresp := rfl
@[simp] theorem Block.setWresp_faults (p : Nat) (x : Option Count) : (b.setWresp p x).faults = b.faults := rfl
@[simp] theorem Block.setWresp_refused (p : Nat) (x : Option Count) : (b.setWresp p x).refused = b.refused := rfl
@[simp] theorem Block.setWresp_history (p : Nat) (x : Option Count) : (b.setWresp p x).history = b.history := rfl

@[simp] theorem Block.setRresp_wbin (q : Nat) (x : Option (PopResponse c)) : (b.setRresp q x).wbin = b.wbin := rfl
@[simp] theorem Block.setRresp_wgray (q : Nat) (x : Option (PopResponse c)) : (b.setRresp q x).wgray = b.wgray := rfl
@[simp] theorem Block.setRresp_rbin (q : Nat) (x : Option (PopResponse c)) : (b.setRresp q x).rbin = b.rbin := rfl
@[simp] theorem Block.setRresp_rgray (q : Nat) (x : Option (PopResponse c)) : (b.setRresp q x).rgray = b.rgray := rfl
@[simp] theorem Block.setRresp_rsync (q : Nat) (x : Option (PopResponse c)) : (b.setRresp q x).rsync = b.rsync := rfl
@[simp] theorem Block.setRresp_wsync (q : Nat) (x : Option (PopResponse c)) : (b.setRresp q x).wsync = b.wsync := rfl
@[simp] theorem Block.setRresp_mem (q : Nat) (x : Option (PopResponse c)) : (b.setRresp q x).mem = b.mem := rfl
@[simp] theorem Block.setRresp_wport (q : Nat) (x : Option (PopResponse c)) : (b.setRresp q x).wport = b.wport := rfl
@[simp] theorem Block.setRresp_rport (q : Nat) (x : Option (PopResponse c)) : (b.setRresp q x).rport = b.rport := rfl
@[simp] theorem Block.setRresp_wresp (q : Nat) (x : Option (PopResponse c)) : (b.setRresp q x).wresp = b.wresp := rfl
@[simp] theorem Block.setRresp_rresp (q : Nat) (x : Option (PopResponse c)) : (b.setRresp q x).rresp = b.rresp.setIfInBounds q x := rfl
@[simp] theorem Block.setRresp_faults (q : Nat) (x : Option (PopResponse c)) : (b.setRresp q x).faults = b.faults := rfl
@[simp] theorem Block.setRresp_refused (q : Nat) (x : Option (PopResponse c)) : (b.setRresp q x).refused = b.refused := rfl
@[simp] theorem Block.setRresp_history (q : Nat) (x : Option (PopResponse c)) : (b.setRresp q x).history = b.history := rfl

@[simp] theorem Block.addFault_wbin (f : FaultMark c) : (b.addFault f).wbin = b.wbin := rfl
@[simp] theorem Block.addFault_wgray (f : FaultMark c) : (b.addFault f).wgray = b.wgray := rfl
@[simp] theorem Block.addFault_rbin (f : FaultMark c) : (b.addFault f).rbin = b.rbin := rfl
@[simp] theorem Block.addFault_rgray (f : FaultMark c) : (b.addFault f).rgray = b.rgray := rfl
@[simp] theorem Block.addFault_rsync (f : FaultMark c) : (b.addFault f).rsync = b.rsync := rfl
@[simp] theorem Block.addFault_wsync (f : FaultMark c) : (b.addFault f).wsync = b.wsync := rfl
@[simp] theorem Block.addFault_mem (f : FaultMark c) : (b.addFault f).mem = b.mem := rfl
@[simp] theorem Block.addFault_wport (f : FaultMark c) : (b.addFault f).wport = b.wport := rfl
@[simp] theorem Block.addFault_rport (f : FaultMark c) : (b.addFault f).rport = b.rport := rfl
@[simp] theorem Block.addFault_wresp (f : FaultMark c) : (b.addFault f).wresp = b.wresp := rfl
@[simp] theorem Block.addFault_rresp (f : FaultMark c) : (b.addFault f).rresp = b.rresp := rfl
@[simp] theorem Block.addFault_faults (f : FaultMark c) : (b.addFault f).faults = if f ∈ b.faults then b.faults else b.faults ++ [f] := rfl
@[simp] theorem Block.addFault_refused (f : FaultMark c) : (b.addFault f).refused = b.refused := rfl
@[simp] theorem Block.addFault_history (f : FaultMark c) : (b.addFault f).history = b.history := rfl

@[simp] theorem Block.setRefused_wbin (r : RefuseMark c) : (b.setRefused r).wbin = b.wbin := rfl
@[simp] theorem Block.setRefused_wgray (r : RefuseMark c) : (b.setRefused r).wgray = b.wgray := rfl
@[simp] theorem Block.setRefused_rbin (r : RefuseMark c) : (b.setRefused r).rbin = b.rbin := rfl
@[simp] theorem Block.setRefused_rgray (r : RefuseMark c) : (b.setRefused r).rgray = b.rgray := rfl
@[simp] theorem Block.setRefused_rsync (r : RefuseMark c) : (b.setRefused r).rsync = b.rsync := rfl
@[simp] theorem Block.setRefused_wsync (r : RefuseMark c) : (b.setRefused r).wsync = b.wsync := rfl
@[simp] theorem Block.setRefused_mem (r : RefuseMark c) : (b.setRefused r).mem = b.mem := rfl
@[simp] theorem Block.setRefused_wport (r : RefuseMark c) : (b.setRefused r).wport = b.wport := rfl
@[simp] theorem Block.setRefused_rport (r : RefuseMark c) : (b.setRefused r).rport = b.rport := rfl
@[simp] theorem Block.setRefused_wresp (r : RefuseMark c) : (b.setRefused r).wresp = b.wresp := rfl
@[simp] theorem Block.setRefused_rresp (r : RefuseMark c) : (b.setRefused r).rresp = b.rresp := rfl
@[simp] theorem Block.setRefused_faults (r : RefuseMark c) : (b.setRefused r).faults = b.faults := rfl
@[simp] theorem Block.setRefused_refused (r : RefuseMark c) : (b.setRefused r).refused = some r := rfl
@[simp] theorem Block.setRefused_history (r : RefuseMark c) : (b.setRefused r).history = b.history := rfl

@[simp] theorem Block.cleared_wbin : b.cleared.wbin = 0 := rfl
@[simp] theorem Block.cleared_wgray : b.cleared.wgray = 0 := rfl
@[simp] theorem Block.cleared_rbin : b.cleared.rbin = 0 := rfl
@[simp] theorem Block.cleared_rgray : b.cleared.rgray = 0 := rfl
@[simp] theorem Block.cleared_rsync : b.cleared.rsync = 0 := rfl
@[simp] theorem Block.cleared_wsync : b.cleared.wsync = 0 := rfl
@[simp] theorem Block.cleared_mem : b.cleared.mem = [] := rfl
@[simp] theorem Block.cleared_wport : b.cleared.wport = Vector.replicate c.P .idle := rfl
@[simp] theorem Block.cleared_rport : b.cleared.rport = Vector.replicate c.C .idle := rfl
@[simp] theorem Block.cleared_wresp : b.cleared.wresp = Vector.replicate c.P none := rfl
@[simp] theorem Block.cleared_rresp : b.cleared.rresp = Vector.replicate c.C none := rfl
@[simp] theorem Block.cleared_faults : b.cleared.faults = b.faults := rfl
@[simp] theorem Block.cleared_refused : b.cleared.refused = b.refused := rfl
@[simp] theorem Block.cleared_history : b.cleared.history = b.history := rfl

end Sys2Proof.Machine

namespace Sys2Proof.Machine

@[simp] theorem State.withBlk_cfg (s : State) (b : Block s.cfg) : (s.withBlk b).cfg = s.cfg := rfl
@[simp] theorem State.withBlk_blk (s : State) (b : Block s.cfg) : (s.withBlk b).blk = b := rfl
@[simp] theorem State.withBlk_trace (s : State) (b : Block s.cfg) : (s.withBlk b).trace = s.trace := rfl
@[simp] theorem State.withBlk_draws (s : State) (b : Block s.cfg) : (s.withBlk b).draws = s.draws := rfl
@[simp] theorem State.drawn_cfg (s : State) : s.drawn.cfg = s.cfg := rfl
@[simp] theorem State.drawn_blk (s : State) : s.drawn.blk = s.blk := rfl
@[simp] theorem State.drawn_trace (s : State) : s.drawn.trace = s.trace := rfl
@[simp] theorem State.drawn_draws (s : State) : s.drawn.draws = s.draws + 1 := rfl

end Sys2Proof.Machine
end

