-- ==== Sys2Proof/Laws/Moves.lean ====
section
/-! SUPPORT. What the writes of every kind of step leave in every field of the block. -/

namespace Sys2Proof.Machine

variable {c : Config} (b : Block c)

@[simp] theorem Block.raise_wbin (f : FaultMark c) : (b.raise f).wbin = b.wbin := rfl
@[simp] theorem Block.raise_wgray (f : FaultMark c) : (b.raise f).wgray = b.wgray := rfl
@[simp] theorem Block.raise_rbin (f : FaultMark c) : (b.raise f).rbin = b.rbin := rfl
@[simp] theorem Block.raise_rgray (f : FaultMark c) : (b.raise f).rgray = b.rgray := rfl
@[simp] theorem Block.raise_rsync (f : FaultMark c) : (b.raise f).rsync = b.rsync := rfl
@[simp] theorem Block.raise_wsync (f : FaultMark c) : (b.raise f).wsync = b.wsync := rfl
@[simp] theorem Block.raise_mem (f : FaultMark c) : (b.raise f).mem = b.mem := rfl
@[simp] theorem Block.raise_wport (f : FaultMark c) : (b.raise f).wport = b.wport := rfl
@[simp] theorem Block.raise_rport (f : FaultMark c) : (b.raise f).rport = b.rport := rfl
@[simp] theorem Block.raise_wresp (f : FaultMark c) : (b.raise f).wresp = b.wresp := rfl
@[simp] theorem Block.raise_rresp (f : FaultMark c) : (b.raise f).rresp = b.rresp := rfl
@[simp] theorem Block.raise_faults (f : FaultMark c) : (b.raise f).faults = if f ∈ b.faults then b.faults else b.faults ++ [f] := rfl
@[simp] theorem Block.raise_refused (f : FaultMark c) : (b.raise f).refused = b.refused := rfl
@[simp] theorem Block.raise_history (f : FaultMark c) : (b.raise f).history = b.history ++ [.fault f] := rfl

@[simp] theorem Block.refuse_wbin (r : RefuseMark c) : (b.refuse r).wbin = b.wbin := rfl
@[simp] theorem Block.refuse_wgray (r : RefuseMark c) : (b.refuse r).wgray = b.wgray := rfl
@[simp] theorem Block.refuse_rbin (r : RefuseMark c) : (b.refuse r).rbin = b.rbin := rfl
@[simp] theorem Block.refuse_rgray (r : RefuseMark c) : (b.refuse r).rgray = b.rgray := rfl
@[simp] theorem Block.refuse_rsync (r : RefuseMark c) : (b.refuse r).rsync = b.rsync := rfl
@[simp] theorem Block.refuse_wsync (r : RefuseMark c) : (b.refuse r).wsync = b.wsync := rfl
@[simp] theorem Block.refuse_mem (r : RefuseMark c) : (b.refuse r).mem = b.mem := rfl
@[simp] theorem Block.refuse_wport (r : RefuseMark c) : (b.refuse r).wport = b.wport := rfl
@[simp] theorem Block.refuse_rport (r : RefuseMark c) : (b.refuse r).rport = b.rport := rfl
@[simp] theorem Block.refuse_wresp (r : RefuseMark c) : (b.refuse r).wresp = b.wresp := rfl
@[simp] theorem Block.refuse_rresp (r : RefuseMark c) : (b.refuse r).rresp = b.rresp := rfl
@[simp] theorem Block.refuse_faults (r : RefuseMark c) : (b.refuse r).faults = b.faults := rfl
@[simp] theorem Block.refuse_refused (r : RefuseMark c) : (b.refuse r).refused = some r := rfl
@[simp] theorem Block.refuse_history (r : RefuseMark c) : (b.refuse r).history = b.history ++ [.refuse r] := rfl

@[simp] theorem Block.issuePush_wbin (p : Nat) (v : c.Element) : (b.issuePush p v).wbin = b.wbin := rfl
@[simp] theorem Block.issuePush_wgray (p : Nat) (v : c.Element) : (b.issuePush p v).wgray = b.wgray := rfl
@[simp] theorem Block.issuePush_rbin (p : Nat) (v : c.Element) : (b.issuePush p v).rbin = b.rbin := rfl
@[simp] theorem Block.issuePush_rgray (p : Nat) (v : c.Element) : (b.issuePush p v).rgray = b.rgray := rfl
@[simp] theorem Block.issuePush_rsync (p : Nat) (v : c.Element) : (b.issuePush p v).rsync = b.rsync := rfl
@[simp] theorem Block.issuePush_wsync (p : Nat) (v : c.Element) : (b.issuePush p v).wsync = b.wsync := rfl
@[simp] theorem Block.issuePush_mem (p : Nat) (v : c.Element) : (b.issuePush p v).mem = b.mem := rfl
@[simp] theorem Block.issuePush_wport (p : Nat) (v : c.Element) : (b.issuePush p v).wport = b.wport.setIfInBounds p (.pending v) := rfl
@[simp] theorem Block.issuePush_rport (p : Nat) (v : c.Element) : (b.issuePush p v).rport = b.rport := rfl
@[simp] theorem Block.issuePush_wresp (p : Nat) (v : c.Element) : (b.issuePush p v).wresp = b.wresp.setIfInBounds p none := rfl
@[simp] theorem Block.issuePush_rresp (p : Nat) (v : c.Element) : (b.issuePush p v).rresp = b.rresp := rfl
@[simp] theorem Block.issuePush_faults (p : Nat) (v : c.Element) : (b.issuePush p v).faults = b.faults := rfl
@[simp] theorem Block.issuePush_refused (p : Nat) (v : c.Element) : (b.issuePush p v).refused = b.refused := rfl
@[simp] theorem Block.issuePush_history (p : Nat) (v : c.Element) : (b.issuePush p v).history = b.history ++ [.issue (.w p) (.push v)] := rfl

@[simp] theorem Block.acceptPush_wbin (p : Nat) (v : c.Element) : (b.acceptPush p v).wbin = b.wbin + 1 := rfl
@[simp] theorem Block.acceptPush_wgray (p : Nat) (v : c.Element) : (b.acceptPush p v).wgray = gray (b.wbin + 1) := rfl
@[simp] theorem Block.acceptPush_rbin (p : Nat) (v : c.Element) : (b.acceptPush p v).rbin = b.rbin := rfl
@[simp] theorem Block.acceptPush_rgray (p : Nat) (v : c.Element) : (b.acceptPush p v).rgray = b.rgray := rfl
@[simp] theorem Block.acceptPush_rsync (p : Nat) (v : c.Element) : (b.acceptPush p v).rsync = b.rsync := rfl
@[simp] theorem Block.acceptPush_wsync (p : Nat) (v : c.Element) : (b.acceptPush p v).wsync = b.wsync := rfl
@[simp] theorem Block.acceptPush_mem (p : Nat) (v : c.Element) : (b.acceptPush p v).mem = b.mem.write (slotOf c b.wbin) v := rfl
@[simp] theorem Block.acceptPush_wport (p : Nat) (v : c.Element) : (b.acceptPush p v).wport = b.wport.setIfInBounds p .idle := rfl
@[simp] theorem Block.acceptPush_rport (p : Nat) (v : c.Element) : (b.acceptPush p v).rport = b.rport := rfl
@[simp] theorem Block.acceptPush_wresp (p : Nat) (v : c.Element) : (b.acceptPush p v).wresp = b.wresp.setIfInBounds p (some 1) := rfl
@[simp] theorem Block.acceptPush_rresp (p : Nat) (v : c.Element) : (b.acceptPush p v).rresp = b.rresp := rfl
@[simp] theorem Block.acceptPush_faults (p : Nat) (v : c.Element) : (b.acceptPush p v).faults = b.faults := rfl
@[simp] theorem Block.acceptPush_refused (p : Nat) (v : c.Element) : (b.acceptPush p v).refused = b.refused := rfl
@[simp] theorem Block.acceptPush_history (p : Nat) (v : c.Element) : (b.acceptPush p v).history = b.history ++ [.commit (.w p) .push 1 b.wbin (some v)] := rfl

@[simp] theorem Block.rejectPush_wbin (p : Nat) : (b.rejectPush p).wbin = b.wbin := rfl
@[simp] theorem Block.rejectPush_wgray (p : Nat) : (b.rejectPush p).wgray = b.wgray := rfl
@[simp] theorem Block.rejectPush_rbin (p : Nat) : (b.rejectPush p).rbin = b.rbin := rfl
@[simp] theorem Block.rejectPush_rgray (p : Nat) : (b.rejectPush p).rgray = b.rgray := rfl
@[simp] theorem Block.rejectPush_rsync (p : Nat) : (b.rejectPush p).rsync = b.rsync := rfl
@[simp] theorem Block.rejectPush_wsync (p : Nat) : (b.rejectPush p).wsync = b.wsync := rfl
@[simp] theorem Block.rejectPush_mem (p : Nat) : (b.rejectPush p).mem = b.mem := rfl
@[simp] theorem Block.rejectPush_wport (p : Nat) : (b.rejectPush p).wport = b.wport.setIfInBounds p .idle := rfl
@[simp] theorem Block.rejectPush_rport (p : Nat) : (b.rejectPush p).rport = b.rport := rfl
@[simp] theorem Block.rejectPush_wresp (p : Nat) : (b.rejectPush p).wresp = b.wresp.setIfInBounds p (some 0) := rfl
@[simp] theorem Block.rejectPush_rresp (p : Nat) : (b.rejectPush p).rresp = b.rresp := rfl
@[simp] theorem Block.rejectPush_faults (p : Nat) : (b.rejectPush p).faults = b.faults := rfl
@[simp] theorem Block.rejectPush_refused (p : Nat) : (b.rejectPush p).refused = b.refused := rfl
@[simp] theorem Block.rejectPush_history (p : Nat) : (b.rejectPush p).history = b.history ++ [.commit (.w p) .push 0 b.wbin none] := rfl

@[simp] theorem Block.issuePop_wbin (q : Nat) : (b.issuePop q).wbin = b.wbin := rfl
@[simp] theorem Block.issuePop_wgray (q : Nat) : (b.issuePop q).wgray = b.wgray := rfl
@[simp] theorem Block.issuePop_rbin (q : Nat) : (b.issuePop q).rbin = b.rbin := rfl
@[simp] theorem Block.issuePop_rgray (q : Nat) : (b.issuePop q).rgray = b.rgray := rfl
@[simp] theorem Block.issuePop_rsync (q : Nat) : (b.issuePop q).rsync = b.rsync := rfl
@[simp] theorem Block.issuePop_wsync (q : Nat) : (b.issuePop q).wsync = b.wsync := rfl
@[simp] theorem Block.issuePop_mem (q : Nat) : (b.issuePop q).mem = b.mem := rfl
@[simp] theorem Block.issuePop_wport (q : Nat) : (b.issuePop q).wport = b.wport := rfl
@[simp] theorem Block.issuePop_rport (q : Nat) : (b.issuePop q).rport = b.rport.setIfInBounds q .pending := rfl
@[simp] theorem Block.issuePop_wresp (q : Nat) : (b.issuePop q).wresp = b.wresp := rfl
@[simp] theorem Block.issuePop_rresp (q : Nat) : (b.issuePop q).rresp = b.rresp.setIfInBounds q none := rfl
@[simp] theorem Block.issuePop_faults (q : Nat) : (b.issuePop q).faults = b.faults := rfl
@[simp] theorem Block.issuePop_refused (q : Nat) : (b.issuePop q).refused = b.refused := rfl
@[simp] theorem Block.issuePop_history (q : Nat) : (b.issuePop q).history = b.history ++ [.issue (.r q) .pop] := rfl

@[simp] theorem Block.acceptPop_wbin (q : Nat) (v : c.Element) : (b.acceptPop q v).wbin = b.wbin := rfl
@[simp] theorem Block.acceptPop_wgray (q : Nat) (v : c.Element) : (b.acceptPop q v).wgray = b.wgray := rfl
@[simp] theorem Block.acceptPop_rbin (q : Nat) (v : c.Element) : (b.acceptPop q v).rbin = b.rbin + 1 := rfl
@[simp] theorem Block.acceptPop_rgray (q : Nat) (v : c.Element) : (b.acceptPop q v).rgray = gray (b.rbin + 1) := rfl
@[simp] theorem Block.acceptPop_rsync (q : Nat) (v : c.Element) : (b.acceptPop q v).rsync = b.rsync := rfl
@[simp] theorem Block.acceptPop_wsync (q : Nat) (v : c.Element) : (b.acceptPop q v).wsync = b.wsync := rfl
@[simp] theorem Block.acceptPop_mem (q : Nat) (v : c.Element) : (b.acceptPop q v).mem = b.mem := rfl
@[simp] theorem Block.acceptPop_wport (q : Nat) (v : c.Element) : (b.acceptPop q v).wport = b.wport := rfl
@[simp] theorem Block.acceptPop_rport (q : Nat) (v : c.Element) : (b.acceptPop q v).rport = b.rport.setIfInBounds q .idle := rfl
@[simp] theorem Block.acceptPop_wresp (q : Nat) (v : c.Element) : (b.acceptPop q v).wresp = b.wresp := rfl
@[simp] theorem Block.acceptPop_rresp (q : Nat) (v : c.Element) : (b.acceptPop q v).rresp = b.rresp.setIfInBounds q (some ⟨1, v⟩) := rfl
@[simp] theorem Block.acceptPop_faults (q : Nat) (v : c.Element) : (b.acceptPop q v).faults = b.faults := rfl
@[simp] theorem Block.acceptPop_refused (q : Nat) (v : c.Element) : (b.acceptPop q v).refused = b.refused := rfl
@[simp] theorem Block.acceptPop_history (q : Nat) (v : c.Element) : (b.acceptPop q v).history = b.history ++ [.commit (.r q) .pop 1 b.rbin (some v)] := rfl

@[simp] theorem Block.rejectPop_wbin (q : Nat) (d : c.Element) : (b.rejectPop q d).wbin = b.wbin := rfl
@[simp] theorem Block.rejectPop_wgray (q : Nat) (d : c.Element) : (b.rejectPop q d).wgray = b.wgray := rfl
@[simp] theorem Block.rejectPop_rbin (q : Nat) (d : c.Element) : (b.rejectPop q d).rbin = b.rbin := rfl
@[simp] theorem Block.rejectPop_rgray (q : Nat) (d : c.Element) : (b.rejectPop q d).rgray = b.rgray := rfl
@[simp] theorem Block.rejectPop_rsync (q : Nat) (d : c.Element) : (b.rejectPop q d).rsync = b.rsync := rfl
@[simp] theorem Block.rejectPop_wsync (q : Nat) (d : c.Element) : (b.rejectPop q d).wsync = b.wsync := rfl
@[simp] theorem Block.rejectPop_mem (q : Nat) (d : c.Element) : (b.rejectPop q d).mem = b.mem := rfl
@[simp] theorem Block.rejectPop_wport (q : Nat) (d : c.Element) : (b.rejectPop q d).wport = b.wport := rfl
@[simp] theorem Block.rejectPop_rport (q : Nat) (d : c.Element) : (b.rejectPop q d).rport = b.rport.setIfInBounds q .idle := rfl
@[simp] theorem Block.rejectPop_wresp (q : Nat) (d : c.Element) : (b.rejectPop q d).wresp = b.wresp := rfl
@[simp] theorem Block.rejectPop_rresp (q : Nat) (d : c.Element) : (b.rejectPop q d).rresp = b.rresp.setIfInBounds q (some ⟨0, d⟩) := rfl
@[simp] theorem Block.rejectPop_faults (q : Nat) (d : c.Element) : (b.rejectPop q d).faults = b.faults := rfl
@[simp] theorem Block.rejectPop_refused (q : Nat) (d : c.Element) : (b.rejectPop q d).refused = b.refused := rfl
@[simp] theorem Block.rejectPop_history (q : Nat) (d : c.Element) : (b.rejectPop q d).history = b.history ++ [.commit (.r q) .pop 0 b.rbin none] := rfl

@[simp] theorem Block.moveWsync_wbin (k : Nat) : (b.moveWsync k).wbin = b.wbin := rfl
@[simp] theorem Block.moveWsync_wgray (k : Nat) : (b.moveWsync k).wgray = b.wgray := rfl
@[simp] theorem Block.moveWsync_rbin (k : Nat) : (b.moveWsync k).rbin = b.rbin := rfl
@[simp] theorem Block.moveWsync_rgray (k : Nat) : (b.moveWsync k).rgray = b.rgray := rfl
@[simp] theorem Block.moveWsync_rsync (k : Nat) : (b.moveWsync k).rsync = b.rsync := rfl
@[simp] theorem Block.moveWsync_wsync (k : Nat) : (b.moveWsync k).wsync = gray (ungray b.wsync + BitVec.ofNat c.W k) := rfl
@[simp] theorem Block.moveWsync_mem (k : Nat) : (b.moveWsync k).mem = b.mem := rfl
@[simp] theorem Block.moveWsync_wport (k : Nat) : (b.moveWsync k).wport = b.wport := rfl
@[simp] theorem Block.moveWsync_rport (k : Nat) : (b.moveWsync k).rport = b.rport := rfl
@[simp] theorem Block.moveWsync_wresp (k : Nat) : (b.moveWsync k).wresp = b.wresp := rfl
@[simp] theorem Block.moveWsync_rresp (k : Nat) : (b.moveWsync k).rresp = b.rresp := rfl
@[simp] theorem Block.moveWsync_faults (k : Nat) : (b.moveWsync k).faults = b.faults := rfl
@[simp] theorem Block.moveWsync_refused (k : Nat) : (b.moveWsync k).refused = b.refused := rfl
@[simp] theorem Block.moveWsync_history (k : Nat) : (b.moveWsync k).history = b.history ++ [.sync .w2r (gray (ungray b.wsync + BitVec.ofNat c.W k))] := rfl

@[simp] theorem Block.moveRsync_wbin (k : Nat) : (b.moveRsync k).wbin = b.wbin := rfl
@[simp] theorem Block.moveRsync_wgray (k : Nat) : (b.moveRsync k).wgray = b.wgray := rfl
@[simp] theorem Block.moveRsync_rbin (k : Nat) : (b.moveRsync k).rbin = b.rbin := rfl
@[simp] theorem Block.moveRsync_rgray (k : Nat) : (b.moveRsync k).rgray = b.rgray := rfl
@[simp] theorem Block.moveRsync_rsync (k : Nat) : (b.moveRsync k).rsync = gray (ungray b.rsync + BitVec.ofNat c.W k) := rfl
@[simp] theorem Block.moveRsync_wsync (k : Nat) : (b.moveRsync k).wsync = b.wsync := rfl
@[simp] theorem Block.moveRsync_mem (k : Nat) : (b.moveRsync k).mem = b.mem := rfl
@[simp] theorem Block.moveRsync_wport (k : Nat) : (b.moveRsync k).wport = b.wport := rfl
@[simp] theorem Block.moveRsync_rport (k : Nat) : (b.moveRsync k).rport = b.rport := rfl
@[simp] theorem Block.moveRsync_wresp (k : Nat) : (b.moveRsync k).wresp = b.wresp := rfl
@[simp] theorem Block.moveRsync_rresp (k : Nat) : (b.moveRsync k).rresp = b.rresp := rfl
@[simp] theorem Block.moveRsync_faults (k : Nat) : (b.moveRsync k).faults = b.faults := rfl
@[simp] theorem Block.moveRsync_refused (k : Nat) : (b.moveRsync k).refused = b.refused := rfl
@[simp] theorem Block.moveRsync_history (k : Nat) : (b.moveRsync k).history = b.history ++ [.sync .r2w (gray (ungray b.rsync + BitVec.ofNat c.W k))] := rfl

end Sys2Proof.Machine
end

