-- ==== Sys2Proof/Laws/Ops.lean ====
section
/-! SUPPORT. What each shared operation can do: the checks of a step, the storage, the ports. -/

namespace Sys2Proof.Machine

/-- A configuration passes the check exactly when it meets the five conditions of spec/00_scope.md R11. -/
theorem config_check_eq_none {c : Config} :
    c.check = none ↔ c.A < c.W ∧ 1 ≤ c.DW ∧ 1 ≤ c.P ∧ 1 ≤ c.C ∧ 2 ≤ c.S := by
  unfold Config.check
  split_ifs <;> simp <;> omega

theorem State.whenLive_of_live {s : State} (h : s.Live) (a : Answer) : s.whenLive a = a := by
  obtain ⟨h1, h2, h3⟩ := h
  simp [State.whenLive, h1, h2, h3]

/-- The trace and the counter do not bear on being live. -/
theorem State.live_mk {s : State} (h : s.Live) (lines : List (Line s.cfg)) (n : Nat) :
    State.Live { cfg := s.cfg, blk := s.blk, trace := lines, draws := n } := h

theorem State.whenLive_of_invalid {s : State} {condition : ConfigFault} (h : s.cfg.check = some condition) (a : Answer) :
    s.whenLive a = .refused (.configInvalid condition) := by
  simp [State.whenLive, h]

/-- If the checks of a step pass to a next state, the state was live and the answer is the step's own. -/
theorem State.whenLive_next {s t : State} {a : Answer} (h : s.whenLive a = .next t) : s.Live ∧ a = .next t := by
  unfold State.whenLive at h
  split at h
  · cases h
  · rename_i hc
    split_ifs at h with h1 h2
    refine ⟨⟨hc, by simpa using h1, by simpa using h2⟩, h⟩

theorem State.whenWportIdle_next {s t : State} {p : Nat} {a : Answer} (h : s.whenWportIdle p a = .next t) :
    s.blk.wport[p]? = some .idle ∧ a = .next t := by
  unfold State.whenWportIdle at h
  split at h
  · cases h
  · cases h
  · rename_i hp
    exact ⟨hp, h⟩

theorem State.whenRportIdle_next {s t : State} {q : Nat} {a : Answer} (h : s.whenRportIdle q a = .next t) :
    s.blk.rport[q]? = some .idle ∧ a = .next t := by
  unfold State.whenRportIdle at h
  split at h
  · cases h
  · cases h
  · rename_i hp
    exact ⟨hp, h⟩

/-- A pending port is one of the block's. -/
theorem Block.exists_of_isPending {c : Config} {b : Block c} {port : Port} (h : b.isPending port = true) :
    port.exists c = true := by
  cases port with
  | w p =>
    by_contra hp
    have : b.wport[p]? = none := Vector.getElem?_eq_none (by simpa [Port.exists] using hp)
    simp [Block.isPending, this] at h
  | r q =>
    by_contra hq
    have : b.rport[q]? = none := Vector.getElem?_eq_none (by simpa [Port.exists] using hq)
    simp [Block.isPending, this] at h

@[simp] theorem mem_allPorts {c : Config} {port : Port} : port ∈ allPorts c ↔ port.exists c = true := by
  cases port <;> simp [allPorts, Port.exists]

/-- The list RESET_WHILE_PENDING records holds exactly the pending ports. -/
theorem Block.mem_pendingPorts {c : Config} {b : Block c} {port : Port} :
    port ∈ b.pendingPorts ↔ b.isPending port = true := by
  simp only [Block.pendingPorts, List.mem_filter, mem_allPorts, and_iff_right_iff_imp]
  exact Block.exists_of_isPending

theorem Block.pendingPorts_eq_nil {c : Config} {b : Block c} :
    b.pendingPorts = [] ↔ ∀ port, b.isPending port = false := by
  simp [List.eq_nil_iff_forall_not_mem, Block.mem_pendingPorts]

/-- A masked cursor is a slot of the storage (spec/20_memory.md R41). -/
theorem slotOf_lt {c : Config} (k : c.Cursor) : slotOf c k < c.N := by
  unfold slotOf Config.N
  exact (k.extractLsb' 0 c.A).isLt

/-- The capacity is positive, and below the range of a legal cursor width (spec/00_scope.md R7). -/
theorem config_N_pos (c : Config) : 0 < c.N := Nat.pow_pos (by omega)

theorem config_N_lt {c : Config} (h : c.A < c.W) : c.N < 2 ^ c.W := Nat.pow_lt_pow_right (by omega) h

/-- The masked cursor as a remainder. -/
theorem slotOf_eq_mod {c : Config} (k : c.Cursor) : slotOf c k = k.toNat % c.N := by
  simp [slotOf, Config.N, BitVec.extractLsb'_toNat]

variable {c : Config}

/-- A slot reads back what was written to it (spec/00_scope.md R13). -/
@[simp] theorem Memory.read_write_same (m : Memory c) (i : Nat) (v : c.Element) : (m.write i v).read i = some v := by
  induction m with
  | nil => simp [Memory.write, Memory.read]
  | cons a m ih =>
    obtain ⟨j, x⟩ := a
    unfold Memory.write
    split_ifs with h1 h2
    · simp [Memory.read]
    · simp [Memory.read]
    · simp [Memory.read, h2, ih]

/-- A write leaves every other slot alone. -/
theorem Memory.read_write_ne (m : Memory c) {i j : Nat} (v : c.Element) (h : j ≠ i) :
    (m.write i v).read j = m.read j := by
  induction m with
  | nil => simp [Memory.write, Memory.read, h]
  | cons a m ih =>
    obtain ⟨k, x⟩ := a
    unfold Memory.write
    split_ifs with h1 h2
    · simp [Memory.read, h]
    · subst h2
      simp [Memory.read, h]
    · simp [Memory.read, ih]

theorem Memory.wf_iff {m : Memory c} :
    m.wf = true ↔ m.Pairwise (fun a b => a.1 < b.1) ∧ ∀ a ∈ m, a.1 < c.N := by
  simp [Memory.wf]

/-- The slots a write lists are those listed before and the one written. -/
theorem Memory.mem_write {m : Memory c} {i : Nat} {v : c.Element} {a : Nat × c.Element} (h : a ∈ m.write i v) :
    a = (i, v) ∨ a ∈ m := by
  induction m with
  | nil => simpa [Memory.write] using h
  | cons d m ih =>
    obtain ⟨j, x⟩ := d
    unfold Memory.write at h
    split_ifs at h with h1 h2
    · simpa using h
    · rcases List.mem_cons.mp h with rfl | h
      · exact .inl rfl
      · exact .inr (List.mem_cons_of_mem _ h)
    · rcases List.mem_cons.mp h with rfl | h
      · exact .inr (List.mem_cons_self ..)
      · exact (ih h).imp_right (List.mem_cons_of_mem _)

/-- A write to a slot of the storage keeps the canonical form. -/
theorem Memory.write_wf {m : Memory c} (h : m.wf = true) {i : Nat} (hi : i < c.N) (v : c.Element) :
    (m.write i v).wf = true := by
  rw [Memory.wf_iff] at *
  refine ⟨?_, fun a ha => ?_⟩
  · obtain ⟨hp, -⟩ := h
    induction m with
    | nil => simp [Memory.write]
    | cons d m ih =>
      obtain ⟨j, x⟩ := d
      obtain ⟨hd, hq⟩ := List.pairwise_cons.mp hp
      unfold Memory.write
      split_ifs with h1 h2
      · refine List.pairwise_cons.mpr ⟨fun a ha => ?_, List.pairwise_cons.mpr ⟨hd, hq⟩⟩
        rcases List.mem_cons.mp ha with rfl | ha
        · exact h1
        · exact Nat.lt_trans h1 (hd a ha)
      · subst h2
        exact List.pairwise_cons.mpr ⟨hd, hq⟩
      · refine List.pairwise_cons.mpr ⟨fun a ha => ?_, ih hq⟩
        rcases Memory.mem_write ha with rfl | ha
        · simp only; omega
        · exact hd a ha
  · rcases Memory.mem_write ha with rfl | ha
    · exact hi
    · exact h.2 a ha

/-- The storage after NEW is canonical. -/
theorem Memory.nil_wf : Memory.wf ([] : Memory c) = true := by simp [Memory.wf]

theorem State.reset_mem_wf : State.reset.blk.mem.wf = true := Memory.nil_wf

/-- Two cursors fewer than N apart, and different, have different slots (spec/10_state.md R35). -/
theorem slotOf_ne (hW : c.A < c.W) (k : c.Cursor) {i j : Nat} (hij : i < j) (hj : j - i < c.N) :
    slotOf c (k + BitVec.ofNat c.W i) ≠ slotOf c (k + BitVec.ofNat c.W j) := by
  have hdvd : c.N ∣ 2 ^ c.W := Nat.pow_dvd_pow 2 (Nat.le_of_lt hW)
  simp only [slotOf_eq_mod, BitVec.toNat_add, BitVec.toNat_ofNat, Nat.mod_mod_of_dvd _ hdvd]
  intro h
  have e : ∀ n, (k.toNat + n % 2 ^ c.W) % c.N = (k.toNat + n) % c.N := fun n => by
    rw [Nat.add_mod, Nat.mod_mod_of_dvd _ hdvd, ← Nat.add_mod]
  rw [e, e] at h
  have h2 : (k.toNat + i) ≡ (k.toNat + j) [MOD c.N] := h
  have h3 : i ≡ j [MOD c.N] := Nat.ModEq.add_left_cancel' _ h2
  have h4 := (Nat.modEq_iff_dvd' (Nat.le_of_lt hij)).mp h3
  exact absurd (Nat.le_of_dvd (by omega) h4) (by omega)

end Sys2Proof.Machine
end

