-- ==== Sys2Proof/Laws/PerInstr.lean ====
section
/-! SUPPORT. Statements about every instruction as syntax, one lemma per constructor. -/

namespace Sys2Proof.Laws.WordOnPort

/-- What a well-formed instruction presents is a word on a port of the block whose op field is legal there, or `rst == 1`
(spec/30_encoding.md R56, R57, R58, R62). -/
def Statement (i : Instr) : Prop :=
  ∀ c : Config, i.wf c = true →
    match encode c i with
    | .command port word => port.exists c = true ∧ ∃ j, decode c port word = .ok j
    | .rst level => level = 1#1

/-- The op field of an assembled word (spec/30_encoding.md R56). -/
theorem opField_commandWord (c : Config) (op : BitVec 2) (data : c.Element) : opField (commandWord c op data) = op := by
  unfold opField commandWord
  ext i hi
  simp [BitVec.getElem_append, hi]

/-- The data field of an assembled word (spec/30_encoding.md R56). -/
theorem dataField_commandWord (c : Config) (op : BitVec 2) (data : c.Element) :
    dataField (commandWord c op data) = data := by
  unfold dataField commandWord
  ext i hi
  simp [BitVec.getLsbD_append, hi]

theorem idleW (p : Nat) : Statement (.idleW p) :=
  fun _ h => ⟨h, _, by simp only [decode, opField_commandWord, opOf]; rfl⟩

theorem idleR (c : Nat) : Statement (.idleR c) :=
  fun _ h => ⟨h, _, by simp only [decode, opField_commandWord, opOf]; rfl⟩

theorem push (p v : Nat) : Statement (.push p v) :=
  fun _ h => ⟨((Bool.and_eq_true _ _).mp h).1, _, by simp only [decode, opField_commandWord, opOf]; rfl⟩

theorem pop (c : Nat) : Statement (.pop c) :=
  fun _ h => ⟨h, _, by simp only [decode, opField_commandWord, opOf]; rfl⟩

theorem new : Statement .new := fun _ _ => rfl

end Sys2Proof.Laws.WordOnPort
end

