-- ==== Sys2Proof/Laws/Signals.lean ====
section
/-! SUPPORT. What a port register says of its request signals, and what the last event says of the done signals. -/

namespace Sys2Proof.Machine

variable {c : Config} {b : Block c}

theorem Block.isPending_of_wport_pending {p : Nat} {v : c.Element} (h : b.wport[p]? = some (.pending v)) :
    b.isPending (.w p) = true := by
  simp only [Block.isPending, h]

theorem Block.isPending_of_wport_idle {p : Nat} (h : b.wport[p]? = some .idle) : b.isPending (.w p) = false := by
  simp only [Block.isPending, h]

theorem Block.isPending_of_rport_pending {q : Nat} (h : b.rport[q]? = some .pending) : b.isPending (.r q) = true := by
  simp only [Block.isPending, h, decide_true]

theorem Block.isPending_of_rport_idle {q : Nat} (h : b.rport[q]? = some .idle) : b.isPending (.r q) = false := by
  simp only [Block.isPending, h, Option.some.injEq, reduceCtorEq, decide_false]

theorem Block.pushData_of_wport_pending {p : Nat} {v : c.Element} (h : b.wport[p]? = some (.pending v)) :
    b.pushData p = some v := by
  simp only [Block.pushData, h]

/-- A commit pulses `done` on its own port and on no other. -/
@[simp] theorem Block.justCommitted_record_commit (port port' : Port) (kind : CommitKind) (count : Count) (cursor : c.Cursor)
    (value : Option c.Element) :
    (b.record (.commit port kind count cursor value)).justCommitted port' = decide (port = port') := by
  simp [Block.justCommitted, Block.record]

/-- Any event but a commit leaves every `done` down. -/
theorem Block.justCommitted_record_of_not_commit {e : Event c}
    (h : ∀ port kind count cursor value, e ≠ .commit port kind count cursor value) (port : Port) :
    (b.record e).justCommitted port = false := by
  cases e with
  | commit port kind count cursor value => exact absurd rfl (h port kind count cursor value)
  | _ => simp [Block.justCommitted, Block.record]

end Sys2Proof.Machine
end

