-- ==== Sys2Proof/Laws/Step.lean ====
section
/-! SUPPORT. What an instruction, a trace line and a step can do: nothing but a transition of the spec, from a live state. -/

namespace Sys2Proof.Machine

/-- If an instruction answers a next state, the state was live, and the configuration, trace and counter are kept while
the block takes one transition. -/
theorem exec_transition {i : Instr} {s t : State} (h : exec i s = .next t) :
    s.Live ∧ ∃ b, t = s.withBlk b ∧ Transition s.blk b := by
  cases i with
  | idleW p =>
    obtain ⟨hl, h⟩ := State.whenLive_next h
    obtain ⟨hp, h⟩ := State.whenWportIdle_next h
    cases h
    exact ⟨hl, _, rfl, .idleW p hp⟩
  | idleR q =>
    obtain ⟨hl, h⟩ := State.whenLive_next h
    obtain ⟨hp, h⟩ := State.whenRportIdle_next h
    cases h
    exact ⟨hl, _, rfl, .idleR q hp⟩
  | push p v =>
    obtain ⟨hl, h⟩ := State.whenLive_next h
    split at h
    · cases h
    · obtain ⟨hp, h⟩ := State.whenWportIdle_next h
      cases h
      exact ⟨hl, _, rfl, .issuePush p _ hp⟩
  | pop q =>
    obtain ⟨hl, h⟩ := State.whenLive_next h
    obtain ⟨hp, h⟩ := State.whenRportIdle_next h
    cases h
    exact ⟨hl, _, rfl, .issuePop q hp⟩
  | new =>
    obtain ⟨hl, h⟩ := State.whenLive_next h
    split_ifs at h with hp
    · cases h
      exact ⟨hl, _, rfl, .new hp⟩
    · cases h
      exact ⟨hl, _, rfl, .resetPending hp⟩

/-- If a PUSH commit answers a next state, the port was pending and the full test decided. -/
theorem commitPush_transition {p : Nat} {s t : State} (h : commitPush p s = .next t) :
    s.Live ∧ ∃ b, t = s.withBlk b ∧ Transition s.blk b := by
  obtain ⟨hl, h⟩ := State.whenLive_next h
  split at h
  · cases h
  · cases h
  · rename_i v hp
    cases h
    refine ⟨hl, _, rfl, ?_⟩
    split_ifs with hf
    · exact .rejectPush p v hp hf
    · exact .acceptPush p v hp (by simpa using hf)

/-- If a POP commit answers a next state, the port was pending; a rejected one moves the free-value counter. -/
theorem commitPop_transition {q : Nat} {s t : State} (h : commitPop q s = .next t) :
    s.Live ∧ ∃ b, (t = s.withBlk b ∨ t = (s.withBlk b).drawn) ∧ Transition s.blk b := by
  obtain ⟨hl, h⟩ := State.whenLive_next h
  split at h
  · cases h
  · cases h
  · rename_i hp
    split_ifs at h with he
    · cases h
      exact ⟨hl, _, .inr rfl, .rejectPop q _ hp he⟩
    · split at h
      · rename_i v hv
        cases h
        exact ⟨hl, _, .inl rfl, .acceptPop q v hp (by simpa using he) hv⟩
      · rename_i hv
        cases h
        exact ⟨hl, _, .inl rfl, .unwritten q hp (by simpa using he) hv⟩

/-- SYNC_W2R on a live state, its draw in the window. -/
theorem syncW2R_of_live {draw : Draw} {s : State} (h : s.Live) (window : draw.amount s.blk.lagW.toNat ≤ s.blk.lagW.toNat) :
    syncW2R draw s = .next (s.withBlk (s.blk.moveWsync (draw.amount s.blk.lagW.toNat))) :=
  (State.whenLive_of_live h _).trans (if_pos window)

/-- SYNC_R2W on a live state, its draw in the window. -/
theorem syncR2W_of_live {draw : Draw} {s : State} (h : s.Live) (window : draw.amount s.blk.lagR.toNat ≤ s.blk.lagR.toNat) :
    syncR2W draw s = .next (s.withBlk (s.blk.moveRsync (draw.amount s.blk.lagR.toNat))) :=
  (State.whenLive_of_live h _).trans (if_pos window)

/-- If a synchronizer step answers a next state, its draw lay in the window. -/
theorem syncStep_transition {s t : State} {draw : Draw} {dir : Dir} (h : syncStep s draw dir = .next t) :
    s.Live ∧ ∃ b, t = s.withBlk b ∧ Transition s.blk b := by
  cases dir with
  | w2r =>
    obtain ⟨hl, h⟩ := State.whenLive_next h
    split_ifs at h with hk
    cases h
    exact ⟨hl, _, rfl, .moveWsync _ hk⟩
  | r2w =>
    obtain ⟨hl, h⟩ := State.whenLive_next h
    split_ifs at h with hk
    cases h
    exact ⟨hl, _, rfl, .moveRsync _ hk⟩

/-- If a line answers a next state, the state was live and the block took one transition. -/
theorem runLine_transition {s t : State} {l : Line s.cfg} (h : runLine s l = .next t) :
    s.Live ∧ ∃ b, (t = s.withBlk b ∨ t = (s.withBlk b).drawn) ∧ Transition s.blk b := by
  have weaken : (s.Live ∧ ∃ b, t = s.withBlk b ∧ Transition s.blk b) →
      s.Live ∧ ∃ b, (t = s.withBlk b ∨ t = (s.withBlk b).drawn) ∧ Transition s.blk b :=
    fun ⟨hl, b, hb, ht⟩ => ⟨hl, b, .inl hb, ht⟩
  cases l with
  | reset => exact weaken (exec_transition (i := .new) h)
  | issue port word =>
    simp only [runLine] at h
    split at h
    · exact weaken (exec_transition h)
    · rename_i e he
      obtain ⟨hl, h⟩ := State.whenLive_next h
      split_ifs at h with hp
      cases h
      exact ⟨hl, _, .inl rfl, .reservedCommand port word hp e he⟩
  | commit port =>
    cases port with
    | w p => exact weaken (commitPush_transition h)
    | r q => exact commitPop_transition h
  | sync dir draw => exact weaken (syncStep_transition h)
  | outOfScope form =>
    obtain ⟨hl, h⟩ := State.whenLive_next h
    cases h
    exact ⟨hl, _, .inl rfl, .unmodelledForm form⟩

/-- Everything a step can do: from a live state, one transition of the spec on the block, the configuration kept and at
most one line taken off the trace. -/
theorem step_transition {s t : State} (h : step s = .next t) :
    s.Live ∧ ∃ (b : Block s.cfg) (n : Nat),
      t = { cfg := s.cfg, blk := b, trace := s.trace.tail, draws := n } ∧ Transition s.blk b := by
  unfold step at h
  split at h
  · rename_i l rest hs
    obtain ⟨hl, b, hb, ht⟩ := runLine_transition h
    refine ⟨hl, b, t.draws, ?_, ht⟩
    rcases hb with rfl | rfl <;> simp [hs, State.withBlk, State.drawn]
  · rename_i hs
    obtain ⟨hl, b, hb, ht⟩ := runLine_transition h
    refine ⟨hl, b, t.draws, ?_, ht⟩
    rcases hb with rfl | rfl <;> simp [hs, State.withBlk, State.drawn]

/-- Every transition appends one event. -/
theorem Transition.event {c : Config} {b b' : Block c} (h : Transition b b') :
    ∃ e, b'.history = b.history ++ [e] := by
  cases h <;> exact ⟨_, rfl⟩

/-- An invariant of the block that every transition keeps is kept by every step. -/
theorem step_keeps {Inv : ∀ {c : Config}, Block c → Prop}
    (keep : ∀ {c : Config} {b b' : Block c}, c.check = none → Inv b → Transition b b' → Inv b')
    {s t : State} (h : step s = .next t) (hs : Inv s.blk) : Inv t.blk := by
  obtain ⟨⟨hc, -⟩, b, n, rfl, ht⟩ := step_transition h
  exact keep hc hs ht

end Sys2Proof.Machine
end

