-- ==== Sys2Proof/Tests/Slice0.lean ====
section
/-! SUPPORT. The model's own tests. Expected results come from spec/95_test_vectors.md, whose vector is named at each test, or
from the rule named. The wit_ theorems show that the hypotheses of a statement can be met together. -/

namespace Sys2Proof.Tests

open Sys2Proof Sys2Proof.Machine

/-- The answer is a next state with this property. -/
def gives (a : Answer) (f : State → Bool) : Bool :=
  match a with
  | .next t => f t
  | _ => false

/-- The answer is a refusal with this name. -/
def refusedAs (a : Answer) (r : Refusal) : Bool :=
  match a with
  | .refused r' => decide (r' = r)
  | _ => false

/-- The configuration of the vectors. -/
abbrev K : Config := Config.table

/-- The block after `reset`. -/
def fresh : Block K := Block.launch K

/-- A state of the vectors' configuration. -/
def at' (b : Block K) (lines : List (Line K) := []) : State := { cfg := K, blk := b, trace := lines, draws := 0 }

/-- A port with a request. -/
def pushPending (b : Block K) (v : BitVec 8) : Block K := b.setWport 0 (.pending v)

def popPending (b : Block K) : Block K := b.setRport 0 .pending

/-! ### Well-formedness: an ill-formed term for each check -/

theorem test_wf_producer_port : (Instr.idleW 1).wf K = false ∧ (Instr.push 1 0).wf K = false := by decide
theorem test_wf_consumer_port : (Instr.idleR 1).wf K = false ∧ (Instr.pop 1).wf K = false := by decide
theorem test_wf_element : (Instr.push 0 256).wf K = false ∧ (Instr.push 0 255).wf K = true := by decide
/-- L2-RST-4 and L2-RST-6, and each other condition of R11. -/
theorem test_config_checks :
    ({ K with A := 2, W := 2 } : Config).check = some .cursorTooNarrow ∧
    ({ K with DW := 0 } : Config).check = some .elementEmpty ∧ ({ K with P := 0 } : Config).check = some .noProducer ∧
    ({ K with C := 0 } : Config).check = some .noConsumer ∧
    ({ K with S := 1 } : Config).check = some .synchronizerTooShallow := by decide
/-- L2-RST-5. -/
theorem test_smallest_config : ({ A := 0, W := 1, DW := 1, P := 1, C := 1, S := 2 } : Config).check = none := by decide

/-! ### Decoding: words written out bit by bit from spec/30_encoding.md R56, R57 -/

/-- L2-DEC-1: op 01, data 0100 0001. -/
theorem test_decode_push : decode K (.w 0) (0b01_01000001#10) = .ok (.push 0 0x41) := by decide
/-- L2-POP-8: op 10, data ignored. -/
theorem test_decode_pop : decode K (.r 0) (0b10_10101011#10) = .ok (.pop 0) := by decide
/-- L2-DEC-4: op 00, data ignored. -/
theorem test_decode_idle : decode K (.w 0) (0b00_11111111#10) = .ok (.idleW 0) ∧
    decode K (.r 0) (0b00_00000000#10) = .ok (.idleR 0) := by decide
/-- L2-DEC-5, L2-DEC-6, L2-DEC-7. -/
theorem test_decode_illegal : decode K (.w 0) (0b11_00000000#10) = .error .reservedOp ∧
    decode K (.w 0) (0b10_00000000#10) = .error .popOnProducer ∧
    decode K (.r 0) (0b01_01000001#10) = .error .pushOnConsumer := by decide
/-- R62. -/
theorem test_decode_new : decodePresented K (.rst 0b1#1) = .ok .new ∧
    decodePresented K (.rst 0b0#1) = .error .resetLow := by decide
/-- The table's words through the host's numbering. -/
theorem test_decodeTableWord : decodeTableWord 16 0x100 = some (.push 0 0) ∧ decodeTableWord 16 0x200 = some (.pop 0) ∧
    decodeTableWord 16 0x000 = some (.idleW 0) ∧ decodeTableWord 8 1 = some .new ∧
    decodeTableWord 16 0x300 = none ∧ decodeTableWord 16 0x500 = none := by decide

/-! ### Gray code and views -/

/-- L2-G-1. -/
theorem test_gray_table : (List.range 8).map (fun n => gray (BitVec.ofNat 3 n)) =
    [0b000#3, 0b001#3, 0b011#3, 0b010#3, 0b110#3, 0b111#3, 0b101#3, 0b100#3] := by decide
/-- L2-G-2, L2-G-5. -/
theorem test_ungray : ungray 0b100#3 = 7 ∧ ungray 0b101#3 = 6 ∧ ungray 0b010#3 = 3 ∧
    gray 0x80#8 = 0xC0#8 ∧ gray 0x7f#8 = 0x40#8 := by decide
/-- L2-G-6, L2-G-7. -/
theorem test_views : ((fresh.setWrite 1).setRead 6).occ.toNat = 3 ∧
    ((fresh.setWrite 4).setRead 1).occ.toNat = 3 ∧ ((fresh.setWrite 4).setRead 1).occW.toNat = 4 ∧
    ((fresh.setWrite 4).setRead 1).lagR.toNat = 1 := by decide

/-! ### The write port -/

/-- L2-PUSH-7. -/
theorem test_idleW_records_only :
    gives (exec (.idleW 0) (at' fresh)) (fun t => decide (t = at' (fresh.record (.issue (.w 0) .idle)))) = true := by decide
/-- L2-PUSH-8. -/
theorem test_push_issue :
    gives (exec (.push 0 0x41) (at' (fresh.setWresp 0 (some 1)))) (fun t =>
      decide (t.blk.pushData 0 = some (BitVec.ofNat t.cfg.DW 0x41)) && decide (t.blk.wrespWord 0 = none) &&
        decide (t.blk.wbin.toNat = 0)) = true := by decide
theorem test_push_on_pending_port_is_no_move :
    refusedAs (exec (.push 0 0x42) (at' (pushPending fresh 0x41))) (.portPending (.w 0)) = true := by decide
/-- L2-PUSH-1. -/
theorem test_push_commit_accepted :
    gives (step (at' (pushPending (fresh.setWrite 2) 0x41) [.commit (.w 0)])) (fun t =>
      decide ((t.blk.mem.read 2).map BitVec.toNat = some 0x41) && decide (t.blk.wbin.toNat = 3) &&
        decide (t.blk.wgray.toNat = 0b010) && decide (t.blk.wrespWord 0 = some 1) && !t.blk.fullW) = true := by decide
/-- L2-PUSH-2: full. -/
theorem test_push_commit_rejected :
    gives (step (at' (pushPending (fresh.setWrite 4) 0x99) [.commit (.w 0)])) (fun t =>
      decide (t.blk.mem.length = 0) && decide (t.blk.wbin.toNat = 4) && decide (t.blk.wrespWord 0 = some 0) &&
        t.blk.fullW) = true := by decide
/-- L2-PUSH-5: the cursor wraps, slot 3. -/
theorem test_push_commit_wraps :
    gives (step (at' (pushPending ((fresh.setWrite 7).setRsync 0b110#3) 0x77) [.commit (.w 0)])) (fun t =>
      decide ((t.blk.mem.read 3).map BitVec.toNat = some 0x77) && decide (t.blk.wbin.toNat = 0) &&
        decide (t.blk.wgray.toNat = 0)) = true := by decide

/-! ### The read port -/

/-- L2-POP-7. -/
theorem test_idleR_records_only :
    gives (exec (.idleR 0) (at' fresh)) (fun t => decide (t = at' (fresh.record (.issue (.r 0) .idle)))) = true := by decide
/-- R76 example. -/
theorem test_pop_issue :
    gives (exec (.pop 0) (at' fresh)) (fun t => t.blk.popReq 0 && decide (t.blk.rrespWord 0 = none)) = true := by decide
/-- L2-POP-1: RRESP 0x141, the slot keeps its element. -/
theorem test_pop_commit_accepted :
    gives (step (at' (popPending (((fresh.setRead 2).setWsync 0b010#3).store 2 0x41#8)) [.commit (.r 0)])) (fun t =>
      decide ((t.blk.rrespWord 0).map BitVec.toNat = some 0x141) && decide (t.blk.rbin.toNat = 3) &&
        decide (t.blk.rgray.toNat = 0b010) && decide ((t.blk.mem.read 2).map BitVec.toNat = some 0x41)) = true := by decide
/-- L2-POP-2: empty after reset; nothing is asked of the data. -/
theorem test_pop_commit_rejected :
    gives (step (at' (popPending fresh) [.commit (.r 0)])) (fun t =>
      decide (t.blk.popCount 0 = some 0) && decide (t.blk.rbin.toNat = 0) && t.blk.emptyR) = true := by decide
/-- L2-POP-6: the fault of a hand-made state; the port stays pending. -/
theorem test_pop_commit_unwritten :
    gives (step (at' (popPending (fresh.setWsync 0b001#3)) [.commit (.r 0)])) (fun t =>
      decide (t.blk.faults.map FaultMark.code = [0x04]) && t.blk.popReq 0 && decide (t.blk.rrespWord 0 = none)) = true := by
  decide

/-! ### The synchronizers -/

/-- L2-SYNC-4: a wrap inside the window. -/
theorem test_sync_w2r_wraps :
    gives (step (at' (((fresh.setWrite 1).setRead 6).setWsync 0b101#3) [.sync .w2r (.exactly 3)])) (fun t =>
      decide (t.blk.wsync.toNat = 0b001)) = true := by decide
/-- L2-SYNC-3: 4 is outside `0 .. 3`. -/
theorem test_sync_w2r_outside_window :
    refusedAs (step (at' (fresh.setWrite 3) [.sync .w2r (.exactly 4)])) (.drawOutsideWindow .w2r 4 3) = true := by decide
/-- L2-SYNC-5: the full flag falls. -/
theorem test_sync_r2w_frees :
    gives (step (at' ((fresh.setWrite 4).setRead 1) [.sync .r2w (.exactly 1)])) (fun t =>
      decide (t.blk.rsync.toNat = 0b001) && !t.blk.fullW) = true := by decide

/-! ### NEW, refusals, quiescence -/

/-- L2-RST-1. -/
theorem test_new :
    gives (exec .new (at' (((fresh.setWrite 3).setRead 1).store 2 0x41#8))) (fun t =>
      decide (t = at' { fresh with history := [.reset, .reset] }) && !t.blk.fullW && t.blk.emptyR) = true := by decide
/-- L2-RST-3. -/
theorem test_new_while_pending :
    gives (exec .new (at' (pushPending fresh 0x55))) (fun t =>
      decide (t = at' ((pushPending fresh 0x55).raise (.resetWhilePending [.w 0])))) = true := by decide
/-- L3-5: line 3, op 11. -/
theorem test_reserved_command :
    gives (step (at' fresh [.issue (.w 0) 0x300#10])) (fun t =>
      decide (t = at' (fresh.refuse (.reservedCommand (.w 0) 0x300#10)))) = true := by decide
/-- R99: no step from a marked state. -/
theorem test_marked_is_quiescent :
    refusedAs (step (at' (fresh.refuse (.unmodelledForm .batchedPush)) [.reset])) .quiescent = true := by decide
/-- R113. -/
theorem test_one_domain_reset_refused :
    gives (step (at' fresh [.outOfScope .oneDomainReset])) (fun t =>
      decide (t.blk.refused.map RefuseMark.code = some 0x05)) = true := by decide
/-- Every table row runs as the first instruction after reset. -/
theorem test_withFetchWord :
    gives (step (State.reset.withFetchWord 16 0x141)) (fun t =>
      decide (t.blk.pushData 0 = some (BitVec.ofNat t.cfg.DW 0x41))) = true ∧
    gives (step (State.reset.withFetchWord 16 0x200)) (fun t => t.blk.popReq 0) = true ∧
    gives (step (State.reset.withFetchWord 8 1)) (fun t => decide (t.blk.history.length = 2)) = true := by decide

/-! ### Trace text (spec/30_encoding.md R64) -/

theorem test_text_base_forms :
    parseLine K "issue w0, push 0x41" = some [.issue (.w 0) 0x141#10] ∧
    parseLine K "issue r0, raw 0x2ab" = some [.issue (.r 0) 0x2ab#10] ∧
    parseLine K "issue r0, idle" = some [.issue (.r 0) 0x000#10] ∧
    parseLine K "commit w0" = some [.commit (.w 0)] ∧ parseLine K "sync r2w, all" = some [.sync .r2w .all] ∧
    parseLine K "sync w2r, 2" = some [.sync .w2r (.exactly 2)] ∧ parseLine K "reset" = some [.reset] := by decide
theorem test_text_pseudo :
    parseLine K "push w0, 17" = some [.issue (.w 0) 0x111#10, .commit (.w 0)] ∧
    parseLine K "pop r0" = some [.issue (.r 0) 0x200#10, .commit (.r 0)] ∧
    parseLine K "settle" = some [.sync .w2r .all, .sync .r2w .all] ∧
    parseLine K "push w1, 17" = none ∧ parseLine K "issue w0, pop" = none ∧ parseLine K "push w0, 256" = none := by decide

end Sys2Proof.Tests
end

