-- ==== Sys2Proof/Tests/Witness.lean ====
section
/-! SUPPORT. For every statement with hypotheses, and for each of its clauses, a state and operands that meet them together. -/

namespace Sys2Proof.Tests

open Sys2Proof Sys2Proof.Machine

theorem live_at {b : Block K} {lines : List (Line K)} (hf : b.faults = []) (hr : b.refused = none) :
    (at' b lines).Live := ⟨(by decide : K.check = none), hf, hr⟩

/-- Two elements pushed, one seen and popped, both copies one behind, a third push pending: every lag, port and slot in use. -/
def busy : Block K :=
  ((((((((fresh.issuePush 0 0x41#8).acceptPush 0 0x41#8).issuePush 0 0x42#8).acceptPush 0 0x42#8).moveWsync 1).issuePop 0).acceptPop
    0 0x41#8).issuePush 0 0x43#8)

/-- Full with elements 1 to 4, the read domain up to date. -/
def full : Block K :=
  (((((fresh.acceptPush 0 1#8).acceptPush 0 2#8).acceptPush 0 3#8).acceptPush 0 4#8).moveWsync 4)

theorem busy_views : busy.ViewsInv := ⟨by decide, by decide, by decide, by decide⟩

theorem busy_queue : busy.QueueInv :=
  ⟨busy_views, by decide, by decide, [0x42#8], by decide, by decide, by decide⟩

theorem busy_claims : busy.ClaimsInv := ⟨by decide, by decide, by decide, by decide⟩

theorem full_views : full.ViewsInv := ⟨by decide, by decide, by decide, by decide⟩

theorem full_queue : full.QueueInv :=
  ⟨full_views, by decide, by decide, [1#8, 2#8, 3#8, 4#8], by decide, by decide, by decide⟩

theorem fresh_queue : fresh.QueueInv :=
  ⟨⟨by decide, by decide, by decide, by decide⟩, by decide, by decide, [], by decide, by decide, by decide⟩

theorem busy_order : busy.PortOrderInv := by
  intro p port hp
  match p with
  | 0 =>
    cases (show some (WPort.pending 0x43#8) = some port from hp)
    exact ⟨[0x41#8, 0x42#8], by decide, .cons (.inr rfl) (.cons (.inr rfl) .nil)⟩
  | n + 1 =>
    rw [Vector.getElem?_eq_none (show K.P ≤ n + 1 from Nat.le_add_left 1 n)] at hp
    cases hp

theorem wit_DecodeOfEncode : (Instr.push 0 255).wf K = true ∧ Instr.new.wf K = true := by decide

theorem wit_DataBitsOnlyForPush :
    (opField (c := K) 0x2ab#10 = opField (c := K) 0x200#10 ∧ opField (c := K) 0x2ab#10 ≠ 0b01#2) ∧
    opField (c := K) 0x1ff#10 = 0b01#2 := by decide

theorem wit_StepRunsDecodedInstruction :
    ((at' fresh [.issue (.r 0) 0x2ab#10]).trace = [.issue (.r 0) 0x2ab#10] ∧ decode K (.r 0) 0x2ab#10 = .ok (.pop 0)) ∧
    (at' fresh [.reset]).trace = [.reset] := ⟨⟨rfl, by decide⟩, rfl⟩

theorem wit_IdleCompletes : (at' busy).Live ∧ (at' fresh).blk.wport[0]? = some .idle ∧ (at' busy).blk.rport[0]? = some .idle :=
  ⟨live_at rfl rfl, by decide, by decide⟩

theorem wit_PushIssueCompletes : (at' fresh).Live ∧ 255 < 2 ^ (at' fresh).cfg.DW ∧ (at' fresh).blk.wport[0]? = some .idle :=
  ⟨live_at rfl rfl, by decide, by decide⟩

theorem wit_PopIssueCompletes : (at' busy).Live ∧ (at' busy).blk.rport[0]? = some .idle := ⟨live_at rfl rfl, by decide⟩

theorem wit_NewCompletes : (at' full).Live ∧ ∀ port, (at' full).blk.isPending port = false :=
  ⟨live_at rfl rfl, Block.pendingPorts_eq_nil.mp (by decide)⟩

theorem wit_NewWhilePendingFaults : (at' busy).Live ∧ ∃ port, (at' busy).blk.isPending port = true :=
  ⟨live_at rfl rfl, .w 0, by decide⟩

theorem wit_IssueFrame : ∃ t, Instr.pop 0 ≠ .new ∧ exec (.pop 0) (at' busy) = .next t := ⟨_, by decide, rfl⟩

theorem wit_HostHasNoMoveOnPendingPort :
    (at' busy).Live ∧ (at' busy).blk.wport[0]? = some (.pending 0x43#8) ∧
    (at' (popPending fresh)).blk.rport[0]? = some .pending ∧ (at' busy).cfg.P ≤ 1 ∧ (at' busy).cfg.C ≤ 1 ∧
    2 ^ (at' busy).cfg.DW ≤ 256 := ⟨live_at rfl rfl, by decide, by decide, by decide, by decide, by decide⟩

theorem wit_IllegalWordRefused :
    (at' busy [.issue (.w 0) 0x3ff#10]).Live ∧ (Port.w 0).exists K = true ∧ (Port.r 0).exists K = true ∧
    opField (c := K) 0x3ff#10 = 0b11#2 ∧ opField (c := K) 0x200#10 = 0b10#2 ∧
    opField (c := K) 0x141#10 = 0b01#2 := ⟨live_at rfl rfl, by decide, by decide, by decide, by decide, by decide⟩

theorem wit_OutOfScopeFormRefused : (at' busy [.outOfScope .batchedPush]).Live ∧
    (at' busy [.outOfScope .batchedPush]).trace = [.outOfScope .batchedPush] := ⟨live_at rfl rfl, rfl⟩

theorem wit_MarkedStateIsQuiescent :
    (busy.raise (.resetWhilePending [.w 0])).faults ≠ [] ∧ (busy.refuse (.unmodelledForm .oneDomainReset)).refused ≠ none := by
  decide

theorem wit_IllFormedConfigurationRefused :
    (K.A < K.W ∧ 1 ≤ K.DW ∧ 1 ≤ K.P ∧ 1 ≤ K.C ∧ 2 ≤ K.S) ∧
    ∃ s : State, ¬(s.cfg.A < s.cfg.W ∧ 1 ≤ s.cfg.DW ∧ 1 ≤ s.cfg.P ∧ 1 ≤ s.cfg.C ∧ 2 ≤ s.cfg.S) :=
  ⟨by decide, State.launch { K with W := 2 }, by decide⟩

theorem wit_MarkingStepWritesNothingElse :
    (∃ t, step (at' (popPending (fresh.setWsync 1)) [.commit (.r 0)]) = .next t) ∧
    ∃ t, step (at' busy [.issue (.r 0) 0x300#10]) = .next t := ⟨⟨_, rfl⟩, ⟨_, rfl⟩⟩

/-- For every statement whose hypothesis is that a step answers a next state, with each invariant stated of it:
StepKeepsViewsInv, StepKeepsQueueInv, StepKeepsClaimsConsecutive, StepKeepsPerProducerOrder, StepKeepsMemoryCanonical,
EveryStepRecordsOneEvent, OnlyCommitsAndNewMoveCursors, OnlySynchronizersMoveCopies, HandshakeSignals, HandshakeData,
AcceptedPushOverwritesNoElement (an accepted commit while elements are stored),
UnwrittenSlotIsNeverRead. -/
theorem wit_step_keeps : ∃ t, busy.ViewsInv ∧ busy.QueueInv ∧ busy.ClaimsInv ∧ busy.PortOrderInv ∧ busy.mem.wf = true ∧
    K.A < K.W ∧ step (at' busy [.commit (.w 0)]) = .next t :=
  ⟨_, busy_views, busy_queue, busy_claims, busy_order, by decide, by decide, rfl⟩

/-- The least value of each hypothesis on `occ_w`, and the largest. -/
theorem wit_PushCommitAccepted : (at' busy [.commit (.w 0)]).Live ∧ busy.wport[0]? = some (.pending 0x43#8) ∧
    busy.occW.toNat < K.N ∧ (pushPending (fresh.setWrite 3) 1).occW.toNat + 1 = K.N :=
  ⟨live_at rfl rfl, by decide, by decide, by decide⟩

theorem wit_PushCommitRejectedWhenFull : (at' (pushPending full 9) [.commit (.w 0)]).Live ∧
    (pushPending full 9).wport[0]? = some (.pending 9) ∧ K.N = (pushPending full 9).occW.toNat :=
  ⟨live_at rfl rfl, by decide, by decide⟩

theorem wit_PopCommitAccepted : (at' (popPending full) [.commit (.r 0)]).Live ∧
    (popPending full).rport[0]? = some .pending ∧ (popPending full).occR ≠ 0 ∧
    (popPending full).mem.read ((popPending full).rbin.toNat % K.N) = some 1#8 ∧ (fresh.setWsync 1).occR = 1 :=
  ⟨live_at rfl rfl, by decide, by decide, rfl, by decide⟩

theorem wit_PopCommitRejectedWhenEmpty : (at' (popPending busy) [.commit (.r 0)]).Live ∧
    (popPending busy).rport[0]? = some .pending ∧ (popPending busy).occR = 0 := ⟨live_at rfl rfl, by decide, by decide⟩

theorem wit_PopCommitOnUnwrittenSlotFaults : (at' (popPending (fresh.setWsync 1)) [.commit (.r 0)]).Live ∧
    (popPending (fresh.setWsync 1)).rport[0]? = some .pending ∧ (popPending (fresh.setWsync 1)).occR ≠ 0 ∧
    (popPending (fresh.setWsync 1)).mem.read ((popPending (fresh.setWsync 1)).rbin.toNat % K.N) = none :=
  ⟨live_at rfl rfl, by decide, by decide, by decide⟩

theorem wit_CommitNeedsPendingRequest : (at' busy [.commit (.r 0)]).trace = [.commit (.r 0)] ∧
    busy.isPending (.r 0) = false := ⟨rfl, by decide⟩

theorem wit_GraySuccessorDiffersInOneBit : gray 1#1 ^^^ gray (1#1 + 1) = BitVec.twoPow 1 0 := by decide

/-- Draws 0, the whole lag, one more, and `all`, for both synchronizers. -/
theorem wit_SyncMovesByTheDraw : (at' busy [.sync .w2r .all]).Live ∧ busy.lagW.toNat = 1 ∧ busy.lagR.toNat = 1 ∧
    ¬2 ≤ busy.lagW.toNat ∧ ¬2 ≤ busy.lagR.toNat := ⟨live_at rfl rfl, by decide, by decide, by decide, by decide⟩

theorem wit_SyncMovesOnlyItsFlag :
    (K.A < K.W ∧ busy.ViewsInv ∧ 1 ≤ busy.lagW.toNat ∧ busy.emptyR = true ∧ 1 ≤ busy.lagR.toNat ∧ busy.fullW = false) ∧
    (full.acceptPop 0 1#8).ViewsInv ∧ (full.acceptPop 0 1#8).fullW = true ∧ 1 ≤ (full.acceptPop 0 1#8).lagR.toNat ∧
    full.emptyR = false :=
  ⟨⟨by decide, busy_views, by decide, by decide, by decide, by decide⟩, ⟨by decide, by decide, by decide, by decide⟩,
    by decide, by decide, by decide⟩

theorem wit_SettleReachesSettledState : (at' busy (Line.settle K)).Live ∧ busy.wgray = gray busy.wbin ∧
    busy.rgray = gray busy.rbin ∧ (at' busy (Line.settle K)).trace = Line.settle K ++ [] :=
  ⟨live_at rfl rfl, by decide, by decide, rfl⟩

/-- The source has just moved from 2 to 3: stage 0 may still sample the old value. -/
theorem wit_ChainEdgeIsASynchronizerStep :
    K.check = none ∧ (Chain.mk [gray 1#3, gray 0#3] : Chain K).Follows 3#3 ∧
    (Chain.mk [gray 1#3, gray 0#3] : Chain K).CanSample 3#3 (gray 2#3) ∧
    (Chain.mk [gray 1#3, gray 0#3] : Chain K).CanSample 3#3 (gray 3#3) :=
  ⟨by decide, ⟨by decide, by decide, by decide⟩, by unfold Chain.CanSample; decide, by unfold Chain.CanSample; decide⟩

/-- ViewsAreConservative, AcceptedPushOverwritesNoElement (its slots), ElementsAreConserved: at an empty view, a full buffer and
with everything popped. -/
theorem wit_views : K.A < K.W ∧ busy.QueueInv ∧ full.QueueInv ∧ busy.fullW = false ∧ full.fullW = true ∧
    full.emptyR = false ∧ 1 < full.occ.toNat ∧ 0 < busy.occ.toNat ∧ fresh.QueueInv ∧ fresh.occ = 0 :=
  ⟨by decide, busy_queue, full_queue, by decide, by decide, by decide, by decide, by decide, fresh_queue, by decide⟩

theorem wit_SettledViewsAreTrue : full.ViewsInv ∧ full.settled = true ∧ full.fullW = true := ⟨full_views, by decide, by decide⟩

theorem wit_UnwrittenSlotIsNeverRead : full.QueueInv ∧ 3 < full.occR.toNat := ⟨full_queue, by decide⟩

/-- Two write domains alike, the read domains different. -/
theorem wit_PushStepsSeeWriteDomainOnly : ∃ t, busy.sameWriteDomain (busy.setRead 2) ∧ busy.sameMarks (busy.setRead 2) ∧
    busy.rbin ≠ (busy.setRead 2).rbin ∧ step (at' busy [.commit (.w 0)]) = .next t :=
  ⟨_, ⟨rfl, rfl, rfl, rfl, rfl⟩, ⟨rfl, rfl⟩, by decide, rfl⟩

/-- The issue lines of the two locality statements. -/
theorem wit_issues_step : (∃ t, step (at' fresh [.issue (.w 0) 0x141#10]) = .next t) ∧
    ∃ t, step (at' fresh [.issue (.r 0) 0x200#10]) = .next t := ⟨⟨_, rfl⟩, ⟨_, rfl⟩⟩

/-- Two read domains alike, the write domains different. -/
theorem wit_PopStepsSeeReadDomainOnly : ∃ t, (popPending full).sameReadDomain ((popPending full).setWrite 5) ∧
    (popPending full).sameMarks ((popPending full).setWrite 5) ∧
    (popPending full).mem.read (slotOf K (popPending full).rbin) =
      ((popPending full).setWrite 5).mem.read (slotOf K (popPending full).rbin) ∧
    (popPending full).wbin ≠ ((popPending full).setWrite 5).wbin ∧ step (at' (popPending full) [.commit (.r 0)]) = .next t :=
  ⟨_, ⟨rfl, rfl, rfl, rfl, rfl⟩, ⟨rfl, rfl⟩, rfl, by decide, rfl⟩

/-- L2-PUSH-9: two producers. -/
abbrev K2 : Config := { A := 2, W := 3, DW := 8, P := 2, C := 1, S := 2 }

def bothPending : Block K2 := ((Block.launch K2).setWport 0 (.pending 0x10#8)).setWport 1 (.pending 0x20#8)

theorem wit_EitherProducerMayCommitFirst :
    K2.check = none ∧ bothPending.faults = [] ∧ bothPending.refused = none ∧
    bothPending.wport[1]? = some (.pending 0x20#8) ∧ bothPending.wport[0]? = some (.pending 0x10#8) ∧
    bothPending.occW.toNat + 2 ≤ K2.N :=
  ⟨by decide, by decide, by decide, by decide, by decide, by decide⟩

theorem wit_AgentsStepWithoutTheHost : (at' busy).Live ∧ (at' busy).trace = [] := ⟨live_at rfl rfl, rfl⟩

theorem busy_pending : busy.wport[0]? = some (.pending 0x43#8) := by decide

theorem busy_room : busy.fullW = false := by decide

theorem wit_EveryTransitionIsAStep : ∃ b, (at' busy).Live ∧ Transition busy b :=
  ⟨_, live_at rfl rfl, .acceptPush 0 _ busy_pending busy_room⟩

/-- HandshakeSignals and HandshakeData: a request that stays up, and both commits with count 1 and with count 0. The issues are
in `wit_issues_step`. -/
theorem wit_Handshake :
    (∃ t, step (at' busy [.sync .w2r .all]) = .next t) ∧ busy.pushReq 0 = true ∧
    (∃ t, step (at' (popPending full) [.commit (.r 0)]) = .next t) ∧
    (∃ t, step (at' (pushPending full 9) [.commit (.w 0)]) = .next t) ∧
    ∃ t, step (at' (popPending fresh) [.commit (.r 0)]) = .next t := ⟨⟨_, rfl⟩, by decide, ⟨_, rfl⟩, ⟨_, rfl⟩, ⟨_, rfl⟩⟩

theorem wit_ResponseWords : busy.rresp[0]? = some (some ⟨1, 0x41#8⟩) ∧ full.wresp[0]? = some (some 1) := by decide

/-! ### Infinite runs -/

/-- A block in which only the synchronizers' stutters remain: nothing pending, no lag. -/
structure Resting (b : Block K) : Prop where
  idle : ∀ port, b.isPending port = false
  lagW : b.lagW.toNat = 0
  lagR : b.lagR.toNat = 0
  codeW : gray (ungray b.wsync + BitVec.ofNat K.W 0) = b.wsync
  codeR : gray (ungray b.rsync + BitVec.ofNat K.W 0) = b.rsync
  faults : b.faults = []
  refused : b.refused = none

/-- A resting block with events added to its history. -/
def rested (b : Block K) (h : List (Event K)) (n : Nat) : State :=
  { cfg := K, blk := { b with history := b.history ++ h }, trace := [], draws := n }

theorem moveWsync_zero {b : Block K} (h : gray (ungray b.wsync + BitVec.ofNat K.W 0) = b.wsync) :
    b.moveWsync 0 = b.record (.sync .w2r b.wsync) := by
  unfold Block.moveWsync
  rw [h]
  rfl

theorem moveRsync_zero {b : Block K} (h : gray (ungray b.rsync + BitVec.ofNat K.W 0) = b.rsync) :
    b.moveRsync 0 = b.record (.sync .r2w b.rsync) := by
  unfold Block.moveRsync
  rw [h]
  rfl

theorem resting_step {b : Block K} (hb : Resting b) (h : List (Event K)) (n : Nat) :
    ∃ dir g, step (rested b h n) = .next (rested b (h ++ [.sync dir g]) (n + 1)) := by
  have live : (rested b h (n + 1)).Live := ⟨(by decide : K.check = none), hb.faults, hb.refused⟩
  have lines : (rested b h n).agentLine = .sync .w2r (.exactly 0) ∨ (rested b h n).agentLine = .sync .r2w (.exactly 0) := by
    have h1 : (rested b h n).blk.lagW.toNat = 0 := hb.lagW
    have h2 : (rested b h n).blk.lagR.toNat = 0 := hb.lagR
    have h3 : ∀ port, (rested b h n).blk.isPending port = false := hb.idle
    unfold State.agentLine
    split
    · simp [h3]
    · simp [h1, Nat.mod_one]
    · simp [h2, Nat.mod_one]
  have e : step (rested b h n) = runLine (rested b h (n + 1)) (rested b h n).agentLine := rfl
  rcases lines with hl | hl
  · refine ⟨.w2r, b.wsync, ?_⟩
    have moved := moveWsync_zero (b := { b with history := b.history ++ h }) hb.codeW
    rw [e, hl]
    refine (syncW2R_of_live (draw := .exactly 0) live (Nat.zero_le _)).trans (congrArg _ (congrArg _ moved) |>.trans ?_)
    simp [rested, State.withBlk, Block.record]
  · refine ⟨.r2w, b.rsync, ?_⟩
    have moved := moveRsync_zero (b := { b with history := b.history ++ h }) hb.codeR
    rw [e, hl]
    refine (syncR2W_of_live (draw := .exactly 0) live (Nat.zero_le _)).trans (congrArg _ (congrArg _ moved) |>.trans ?_)
    simp [rested, State.withBlk, Block.record]

/-- From a resting block there is an infinite run that only adds synchronizer events. -/
theorem resting_run {b : Block K} (hb : Resting b) (start : Nat) :
    ∃ f : Nat → List (Event K), f 0 = [] ∧ IsRun (fun n => rested b (f n) (n + start)) := by
  choose dir g hs using fun (h : List (Event K)) (n : Nat) => resting_step hb h n
  let f : Nat → List (Event K) := fun n => Nat.rec [] (fun k h => h ++ [.sync (dir h (k + start)) (g h (k + start))]) n
  refine ⟨f, rfl, fun n => ?_⟩
  show step (rested b (f n) (n + start)) = .next (rested b (f (n + 1)) (n + 1 + start))
  rw [Nat.add_right_comm]
  exact hs (f n) (n + start)

theorem fresh_resting : Resting fresh :=
  ⟨Block.pendingPorts_eq_nil.mp (by decide), by decide, by decide, by decide, by decide, rfl, rfl⟩

theorem wit_StoppedCursorIsSeenForGood : ∃ run, IsRun run ∧ (run 0).blk.ViewsInv ∧
    (CatchesUpW2R run ∧ ∀ m, 0 ≤ m → (run (m + 1)).blk.wbin.toNat = (run m).blk.wbin.toNat) ∧
    (CatchesUpR2W run ∧ ∀ m, 0 ≤ m → (run (m + 1)).blk.rbin.toNat = (run m).blk.rbin.toNat) := by
  obtain ⟨f, -, hr⟩ := resting_run fresh_resting 0
  have views : fresh.ViewsInv := ⟨by decide, by decide, by decide, by decide⟩
  exact ⟨_, hr, ⟨views.1, views.2, views.3, views.4⟩, ⟨fun n _ => ⟨n, Nat.le_refl n, rfl⟩, fun _ _ => rfl⟩,
    fun n _ => ⟨n, Nat.le_refl n, rfl⟩, fun _ _ => rfl⟩

/-- A run that starts at `s` and goes on as `rest`. -/
def after (s : State) (rest : Nat → State) : Nat → State
  | 0 => s
  | n + 1 => rest n

theorem after_isRun {s : State} {rest : Nat → State} (first : step s = .next (rest 0)) (run : IsRun rest) :
    IsRun (after s rest)
  | 0 => first
  | n + 1 => run n

/-- A block with one pending push, whose rejection leaves a resting block. -/
theorem answered_push {b : Block K} (resting : Resting (b.rejectPush 0))
    (first : step (at' b [.commit (.w 0)]) = .next (rested (b.rejectPush 0) [] 0)) :
    ∃ run, IsRun run ∧ StarvationFreeW 0 run ∧ run 0 = at' b [.commit (.w 0)] := by
  obtain ⟨f, h0, hr⟩ := resting_run resting 0
  refine ⟨after (at' b [.commit (.w 0)]) (fun n => rested (b.rejectPush 0) (f n) (n + 0)), after_isRun ?_ hr, ?_, rfl⟩
  · rw [h0]; exact first
  · intro n p hp
    cases n with
    | zero =>
      refine ⟨1, Nat.one_pos, resting.idle (.w p), ?_⟩
      have grows : (b.rejectPush 0).history ++ f 0 = b.history ++ [.commit (.w 0) .push 0 b.wbin none] := by
        simp [h0, Block.rejectPush, Block.record, Block.setWport, Block.setWresp]
      show List.countP (Event.isPushCommit (c := K)) ((b.rejectPush 0).history ++ f 0) ≤ List.countP Event.isPushCommit b.history + 0 + 1
      rw [grows, List.countP_append]
      exact Nat.le_refl _
    | succ n => cases hp.symm.trans (resting.idle (.w p))

theorem wit_PendingPushIsAnswered :
    ∃ run, IsRun run ∧ StarvationFreeW 0 run ∧ (run 0).blk.isPending (.w 0) = true := by
  have resting : Resting ((pushPending full 9).rejectPush 0) :=
    ⟨Block.pendingPorts_eq_nil.mp (by decide), by decide, by decide, by decide, by decide, rfl, rfl⟩
  obtain ⟨run, h1, h2, h3⟩ := answered_push resting rfl
  exact ⟨run, h1, h2, by rw [h3]; rfl⟩

/-- A block with one pending pop, whose rejection leaves a resting block. -/
theorem answered_pop {b : Block K} (d : BitVec 8) (resting : Resting (b.rejectPop 0 d))
    (first : step (at' b [.commit (.r 0)]) = .next (rested (b.rejectPop 0 d) [] 1)) :
    ∃ run, IsRun run ∧ StarvationFreeR 0 run ∧ run 0 = at' b [.commit (.r 0)] := by
  obtain ⟨f, h0, hr⟩ := resting_run resting 1
  refine ⟨after (at' b [.commit (.r 0)]) (fun n => rested (b.rejectPop 0 d) (f n) (n + 1)), after_isRun ?_ hr, ?_, rfl⟩
  · rw [h0]; exact first
  · intro n p hp
    cases n with
    | zero =>
      refine ⟨1, Nat.one_pos, resting.idle (.r p), ?_⟩
      have grows : (b.rejectPop 0 d).history ++ f 0 = b.history ++ [.commit (.r 0) .pop 0 b.rbin none] := by
        simp [h0, Block.rejectPop, Block.record, Block.setRport, Block.setRresp]
      show List.countP (Event.isPopCommit (c := K)) ((b.rejectPop 0 d).history ++ f 0) ≤ List.countP Event.isPopCommit b.history + 0 + 1
      rw [grows, List.countP_append]
      exact Nat.le_refl _
    | succ n => cases hp.symm.trans (resting.idle (.r p))

theorem wit_PendingPopIsAnswered :
    ∃ run, IsRun run ∧ StarvationFreeR 0 run ∧ (run 0).blk.isPending (.r 0) = true := by
  have codes : gray (ungray fresh.wsync + BitVec.ofNat K.W 0) = fresh.wsync ∧
      gray (ungray fresh.rsync + BitVec.ofNat K.W 0) = fresh.rsync := by decide
  have lags : fresh.lagW.toNat = 0 ∧ fresh.lagR.toNat = 0 := by decide
  have resting (d : BitVec 8) : Resting ((popPending fresh).rejectPop 0 d) :=
    ⟨Block.pendingPorts_eq_nil.mp rfl, lags.1, lags.2, codes.1, codes.2, rfl, rfl⟩
  obtain ⟨run, h1, h2, h3⟩ := answered_pop (Config.freeElement 8 0) (resting _) rfl
  exact ⟨run, h1, h2, by rw [h3]; rfl⟩

end Sys2Proof.Tests
end

section
/-! PROOFS. Scope: construction, and the answers for a configuration that has no machine (spec/00_scope.md R11). -/

namespace Sys2Proof.Machine

/-- The condition the check finds is one that the configuration fails. -/
theorem config_check_fails {c : Config} {condition : ConfigFault} (h : c.check = some condition) : condition.Fails c := by
  unfold Config.check at h
  split_ifs at h <;> cases h <;> simp only [ConfigFault.Fails] <;> omega

theorem construct_of_valid {c : Config} (h : c.check = none) : construct c = .next (State.launch c) := by
  simp [construct, h]

theorem construct_of_invalid {c : Config} {condition : ConfigFault} (h : c.check = some condition) :
    construct c = .refused (.configInvalid condition) := by
  simp [construct, h]

/-- Every instruction makes the checks of a step before anything else (spec/60_exceptions.md R101). -/
theorem exec_eq_whenLive (i : Instr) (s : State) : ∃ answer, exec i s = s.whenLive answer := by
  cases i <;> exact ⟨_, rfl⟩

/-- Every trace line makes the checks of a step before anything else (spec/60_exceptions.md R101). -/
theorem runLine_eq_whenLive (s : State) (l : Line s.cfg) : ∃ answer, runLine s l = s.whenLive answer := by
  cases l with
  | reset => exact exec_eq_whenLive .new s
  | issue port word =>
    simp only [runLine]
    split
    · exact exec_eq_whenLive _ s
    · exact ⟨_, rfl⟩
  | commit port => cases port <;> exact ⟨_, rfl⟩
  | sync dir draw => cases dir <;> exact ⟨_, rfl⟩
  | outOfScope form => exact ⟨_, rfl⟩

/-- Every step makes the checks first; the trace and the counter, which it moves before them, do not bear on them. -/
theorem step_eq_whenLive (s : State) : ∃ answer, step s = s.whenLive answer := by
  unfold step
  split
  · exact runLine_eq_whenLive _ _
  · exact runLine_eq_whenLive _ _

theorem exec_of_invalid {s : State} {condition : ConfigFault} (h : s.cfg.check = some condition) (i : Instr) :
    exec i s = .refused (.configInvalid condition) := by
  obtain ⟨answer, ha⟩ := exec_eq_whenLive i s
  exact ha.trans (State.whenLive_of_invalid h answer)

theorem step_of_invalid {s : State} {condition : ConfigFault} (h : s.cfg.check = some condition) :
    step s = .refused (.configInvalid condition) := by
  obtain ⟨answer, ha⟩ := step_eq_whenLive s
  exact ha.trans (State.whenLive_of_invalid h answer)

/-- Settles O17: the five conditions are those of the check, and the condition it finds is the answer of construction and
of the checks that every step and instruction makes first. -/
theorem illFormedConfigurationRefused : Obligations.IllFormedConfigurationRefused := by
  intro c
  refine ⟨fun valid => construct_of_valid (config_check_eq_none.mpr valid), fun invalid => ?_⟩
  obtain ⟨condition, hc⟩ := Option.ne_none_iff_exists'.mp (mt config_check_eq_none.mp invalid)
  refine ⟨condition, config_check_fails hc, construct_of_invalid hc, ?_⟩
  rintro s rfl
  exact ⟨step_of_invalid hc, exec_of_invalid hc⟩

end Sys2Proof.Machine
end


section
/-! PROOFS. Scope: what a step does to the queue, that is to the cursors, their copies, the slots and the history; that
every step keeps the cursor and the queue invariant; who writes which register (spec/10_state.md sections 2, 3 and 8). -/

namespace Sys2Proof.Machine

/-! ### The Gray code undone -/

/-- The sum of the shifts of a Gray code telescopes. -/
theorem xorShifts_gray {w : Nat} (b : BitVec w) (n : Nat) : xorShifts (gray b) n = b ^^^ (b >>> n) := by
  induction n with
  | zero => simp [xorShifts]
  | succ n ih =>
    have shifted : gray b >>> n = b >>> n ^^^ b >>> (n + 1) := by
      rw [gray, BitVec.ushiftRight_xor_distrib, ← BitVec.shiftRight_add, Nat.add_comm]
    rw [xorShifts, ih, shifted, BitVec.xor_assoc, ← BitVec.xor_assoc (b >>> n), BitVec.xor_self, BitVec.zero_xor]

/-- `ungray(gray(b)) == b` (spec/42_cdc_sync.md R86). -/
@[simp] theorem ungray_gray {w : Nat} (b : BitVec w) : ungray (gray b) = b := by
  rw [ungray, xorShifts_gray, BitVec.ushiftRight_eq_zero (Nat.le_refl w), BitVec.xor_zero]

@[simp] theorem gray_zero {w : Nat} : gray 0#w = 0#w := by simp [gray]

@[simp] theorem ungray_zero {w : Nat} : ungray 0#w = 0#w := by
  simpa only [gray_zero] using ungray_gray 0#w

/-! ### Counting words -/

theorem toNat_add_one_of_lt {w : Nat} {x : BitVec w} (h : x.toNat + 1 < 2 ^ w) : (x + 1).toNat = x.toNat + 1 := by
  have one : (1 : BitVec w).toNat = 1 := Nat.mod_eq_of_lt (Nat.lt_of_le_of_lt (Nat.le_add_left ..) h)
  rw [BitVec.toNat_add_of_lt (by omega), one]

theorem toNat_sub_ofNat_of_le {w k : Nat} {x : BitVec w} (h : k ≤ x.toNat) :
    (x - BitVec.ofNat w k).toNat = x.toNat - k := by
  have draw : (BitVec.ofNat w k).toNat = k := Nat.mod_eq_of_lt (Nat.lt_of_le_of_lt h x.isLt)
  rw [BitVec.toNat_sub_of_le (BitVec.le_def.mpr (by omega)), draw]

/-! ### What a step does to the queue -/

/-- Neither Reset nor an accepted commit. -/
def Event.quiet {c : Config} : Event c → Bool
  | .reset => false
  | .commit _ _ count _ _ => decide (count ≠ 1)
  | _ => true

/-- `b'` has the cursors, Gray registers, copies and storage of `b`, and one more event, a quiet one. -/
structure Block.Rests {c : Config} (b b' : Block c) (e : Event c) : Prop where
  wbin : b'.wbin = b.wbin
  wgray : b'.wgray = b.wgray
  rbin : b'.rbin = b.rbin
  rgray : b'.rgray = b.rgray
  wsync : b'.wsync = b.wsync
  rsync : b'.rsync = b.rsync
  mem : b'.mem = b.mem
  history : b'.history = b.history ++ [e]
  quiet : e.quiet = true

/-- The transitions of the spec as far as the queue goes: those that write a cursor, a copy or a slot one by one, and the
rest, which write none. -/
inductive QueueMove {c : Config} (b : Block c) : Block c → Prop where
  | push (p : Nat) (v : c.Element) (room : b.fullW = false) : QueueMove b (b.acceptPush p v)
  | pop (q : Nat) (v : c.Element) (stored : b.emptyR = false) (read : b.mem.read (slotOf c b.rbin) = some v) :
      QueueMove b (b.acceptPop q v)
  | moveWsync (k : Nat) (window : k ≤ b.lagW.toNat) : QueueMove b (b.moveWsync k)
  | moveRsync (k : Nat) (window : k ≤ b.lagR.toNat) : QueueMove b (b.moveRsync k)
  | new : QueueMove b (b.cleared.record .reset)
  | rest {b' : Block c} (e : Event c) (rests : b.Rests b' e) : QueueMove b b'

theorem Transition.queueMove {c : Config} {b b' : Block c} (h : Transition b b') : QueueMove b b' := by
  cases h with
  | acceptPush p v _ room => exact .push p v room
  | acceptPop q v _ stored read => exact .pop q v stored read
  | moveWsync k window => exact .moveWsync k window
  | moveRsync k window => exact .moveRsync k window
  | new => exact .new
  | idleW | idleR | issuePush | issuePop | rejectPush | rejectPop | unwritten | resetPending | reservedCommand
  | unmodelledForm => exact .rest _ ⟨rfl, rfl, rfl, rfl, rfl, rfl, rfl, rfl, rfl⟩

/-- What every transition does to the block, a step does from its state to the next. -/
theorem step_moves {s t : State} {R : Block s.cfg → Block s.cfg → Prop} (h : step s = .next t)
    (moved : ∀ b', Transition s.blk b' → R s.blk b') : s.Moves t R := by
  obtain ⟨-, b', n, rfl, move⟩ := step_transition h
  exact ⟨b', _, n, rfl, moved b' move⟩

/-! ### The occupancy and the lags after each of these moves -/

section Views

variable {c : Config} (b : Block c)

@[simp] theorem Block.acceptPush_occ (p : Nat) (v : c.Element) : (b.acceptPush p v).occ = b.occ + 1 :=
  add_sub_right_comm ..

@[simp] theorem Block.acceptPush_lagW (p : Nat) (v : c.Element) : (b.acceptPush p v).lagW = b.lagW + 1 :=
  add_sub_right_comm ..

@[simp] theorem Block.acceptPush_lagR (p : Nat) (v : c.Element) : (b.acceptPush p v).lagR = b.lagR := rfl

@[simp] theorem Block.acceptPop_occ (q : Nat) (v : c.Element) : (b.acceptPop q v).occ = b.occ - 1 :=
  sub_add_eq_sub_sub ..

@[simp] theorem Block.acceptPop_lagW (q : Nat) (v : c.Element) : (b.acceptPop q v).lagW = b.lagW := rfl

@[simp] theorem Block.acceptPop_lagR (q : Nat) (v : c.Element) : (b.acceptPop q v).lagR = b.lagR + 1 :=
  add_sub_right_comm ..

@[simp] theorem Block.moveWsync_occ (k : Nat) : (b.moveWsync k).occ = b.occ := rfl

@[simp] theorem Block.moveWsync_lagW (k : Nat) : (b.moveWsync k).lagW = b.lagW - BitVec.ofNat c.W k := by
  simp only [Block.lagW, moveWsync_wbin, moveWsync_wsync, ungray_gray, sub_add_eq_sub_sub]

@[simp] theorem Block.moveWsync_lagR (k : Nat) : (b.moveWsync k).lagR = b.lagR := rfl

@[simp] theorem Block.moveRsync_occ (k : Nat) : (b.moveRsync k).occ = b.occ := rfl

@[simp] theorem Block.moveRsync_lagW (k : Nat) : (b.moveRsync k).lagW = b.lagW := rfl

@[simp] theorem Block.moveRsync_lagR (k : Nat) : (b.moveRsync k).lagR = b.lagR - BitVec.ofNat c.W k := by
  simp only [Block.lagR, moveRsync_rbin, moveRsync_rsync, ungray_gray, sub_add_eq_sub_sub]

/-- A W2R synchronizer step shortens the lag by its draw (spec/42_cdc_sync.md R90). -/
theorem Block.moveWsync_lagW_toNat {k : Nat} (window : k ≤ b.lagW.toNat) :
    (b.moveWsync k).lagW.toNat = b.lagW.toNat - k := by
  rw [moveWsync_lagW, toNat_sub_ofNat_of_le window]

/-- An R2W synchronizer step shortens the lag by its draw (spec/42_cdc_sync.md R91). -/
theorem Block.moveRsync_lagR_toNat {k : Nat} (window : k ≤ b.lagR.toNat) :
    (b.moveRsync k).lagR.toNat = b.lagR.toNat - k := by
  rw [moveRsync_lagR, toNat_sub_ofNat_of_le window]

/-- The write domain's view is the occupancy with the lag of its copy (spec/10_state.md R33). -/
theorem Block.occW_eq : b.occW = b.occ + b.lagR := (sub_add_sub_cancel ..).symm

/-- The read domain's view is the occupancy less the lag of its copy (spec/10_state.md R33). -/
theorem Block.occR_eq : b.occR = b.occ - b.lagW := (sub_sub_sub_cancel_left ..).symm

end Views

/-! ### The cursor invariant -/

section ViewsInv

variable {c : Config} {b b' : Block c}

theorem Block.ViewsInv.occ_le (h : b.ViewsInv) : b.occ.toNat ≤ c.N := Nat.le_of_add_right_le h.room

theorem Block.ViewsInv.occW_toNat (hW : c.A < c.W) (h : b.ViewsInv) : b.occW.toNat = b.occ.toNat + b.lagR.toNat := by
  rw [occW_eq, BitVec.toNat_add_of_lt (Nat.lt_of_le_of_lt h.room (config_N_lt hW))]

theorem Block.ViewsInv.occR_toNat (h : b.ViewsInv) : b.occR.toNat = b.occ.toNat - b.lagW.toNat := by
  rw [occR_eq, BitVec.toNat_sub_of_le (BitVec.le_def.mpr h.lagW_le_occ)]

/-- A PUSH that the full test lets pass finds the block not full (spec/42_cdc_sync.md R93). -/
theorem Block.ViewsInv.room_of_not_fullW (hW : c.A < c.W) (h : b.ViewsInv) (room : b.fullW = false) :
    b.occ.toNat + b.lagR.toNat < c.N := by
  rw [← h.occW_toNat hW]
  simpa [fullW] using room

/-- A POP that the empty test lets pass finds an element that the read domain has seen (spec/42_cdc_sync.md R93). -/
theorem Block.ViewsInv.lagW_lt_of_not_emptyR (h : b.ViewsInv) (stored : b.emptyR = false) :
    b.lagW.toNat < b.occ.toNat := by
  have seen : b.occR.toNat ≠ 0 := fun zero => by simp [emptyR, BitVec.eq_of_toNat_eq (y := 0) zero] at stored
  rw [h.occR_toNat] at seen
  omega

/-- An accepted push makes the occupancy one more. -/
theorem Block.ViewsInv.acceptPush_occ_toNat (hW : c.A < c.W) (h : b.ViewsInv) (room : b.fullW = false) (p : Nat)
    (v : c.Element) : (b.acceptPush p v).occ.toNat = b.occ.toNat + 1 := by
  have := h.room_of_not_fullW hW room
  rw [acceptPush_occ, toNat_add_one_of_lt (by have := config_N_lt hW; omega)]

/-- An accepted pop makes the occupancy one less. -/
theorem Block.ViewsInv.acceptPop_occ_toNat (h : b.ViewsInv) (stored : b.emptyR = false) (q : Nat) (v : c.Element) :
    (b.acceptPop q v).occ.toNat = b.occ.toNat - 1 := by
  have := h.lagW_lt_of_not_emptyR stored
  rw [acceptPop_occ]
  exact toNat_sub_ofNat_of_le (k := 1) (by omega)

theorem Block.ViewsInv.acceptPush (hW : c.A < c.W) (h : b.ViewsInv) (room : b.fullW = false) (p : Nat) (v : c.Element) :
    (b.acceptPush p v).ViewsInv := by
  have hroom := h.room_of_not_fullW hW room
  have hocc := h.acceptPush_occ_toNat hW room p v
  have hlag : (b.acceptPush p v).lagW.toNat ≤ b.lagW.toNat + 1 := by
    rw [acceptPush_lagW, BitVec.toNat_add]
    exact (Nat.mod_le ..).trans (Nat.add_le_add_left (Nat.mod_le ..) _)
  have := h.lagW_le_occ
  exact ⟨by omega, by rw [acceptPush_lagR]; omega, rfl, h.rgray_eq⟩

theorem Block.ViewsInv.acceptPop (h : b.ViewsInv) (stored : b.emptyR = false) (q : Nat) (v : c.Element) :
    (b.acceptPop q v).ViewsInv := by
  have hseen := h.lagW_lt_of_not_emptyR stored
  have hocc := h.acceptPop_occ_toNat stored q v
  have hlag : (b.acceptPop q v).lagR.toNat ≤ b.lagR.toNat + 1 := by
    rw [acceptPop_lagR, BitVec.toNat_add]
    exact (Nat.mod_le ..).trans (Nat.add_le_add_left (Nat.mod_le ..) _)
  have := h.room
  exact ⟨by rw [acceptPop_lagW]; omega, by omega, h.wgray_eq, rfl⟩

theorem Block.ViewsInv.moveWsync (h : b.ViewsInv) {k : Nat} (window : k ≤ b.lagW.toNat) : (b.moveWsync k).ViewsInv where
  lagW_le_occ := by rw [b.moveWsync_lagW_toNat window]; exact (Nat.sub_le ..).trans h.lagW_le_occ
  room := h.room
  wgray_eq := h.wgray_eq
  rgray_eq := h.rgray_eq

theorem Block.ViewsInv.moveRsync (h : b.ViewsInv) {k : Nat} (window : k ≤ b.lagR.toNat) : (b.moveRsync k).ViewsInv where
  lagW_le_occ := h.lagW_le_occ
  room := by rw [b.moveRsync_lagR_toNat window]; exact (Nat.add_le_add_left (Nat.sub_le ..) _).trans h.room
  wgray_eq := h.wgray_eq
  rgray_eq := h.rgray_eq

theorem Block.ViewsInv.new (b : Block c) : (b.cleared.record .reset).ViewsInv := by
  constructor <;> simp [Block.lagW, Block.lagR, Block.occ]

theorem Block.ViewsInv.rest (h : b.ViewsInv) {e : Event c} (rests : b.Rests b' e) : b'.ViewsInv := by
  obtain ⟨hwbin, hwgray, hrbin, hrgray, hwsync, hrsync, -, -, -⟩ := rests
  obtain ⟨hlag, hroom, hw, hr⟩ := h
  constructor <;> simpa only [Block.lagW, Block.lagR, Block.occ, hwbin, hwgray, hrbin, hrgray, hwsync, hrsync]

theorem QueueMove.keeps_viewsInv (hW : c.A < c.W) (h : b.ViewsInv) (move : QueueMove b b') : b'.ViewsInv := by
  cases move with
  | push p v room => exact h.acceptPush hW room p v
  | pop q v stored _ => exact h.acceptPop stored q v
  | moveWsync k window => exact h.moveWsync window
  | moveRsync k window => exact h.moveRsync window
  | new => exact .new b
  | rest e rests => exact h.rest rests

end ViewsInv

/-- Settles O35, move by move: an accepted push has room, an accepted pop an element seen, a draw lies in its lag. -/
theorem stepKeepsViewsInv : Obligations.StepKeepsViewsInv := fun _ _ hs h =>
  step_keeps (fun valid inv move => move.queueMove.keeps_viewsInv (config_check_eq_none.mp valid).1 inv) h hs

/-! ### The queue invariant -/

section QueueInv

variable {c : Config} {b b' : Block c}

/-- The history since the last NEW, after one more event. -/
theorem sinceNew_append (history : List (Event c)) (e : Event c) :
    sinceNew (history ++ [e]) = if e = .reset then [] else sinceNew history ++ [e] := by
  simp only [sinceNew, List.foldl_append, List.foldl_cons, List.foldl_nil]

theorem Event.ne_reset_of_quiet {e : Event c} (h : e.quiet = true) : e ≠ .reset := by
  rintro rfl
  cases h

theorem Event.pushed?_of_quiet {e : Event c} (h : e.quiet = true) : e.pushed? = none := by
  cases e with
  | commit port kind count cursor value =>
    have rejected : count ≠ 1#1 := of_decide_eq_true h
    cases port <;> cases kind <;> simp [pushed?, rejected]
  | _ => rfl

theorem Event.popped?_of_quiet {e : Event c} (h : e.quiet = true) : e.popped? = none := by
  cases e with
  | commit port kind count cursor value =>
    have rejected : count ≠ 1#1 := of_decide_eq_true h
    cases port <;> cases kind <;> simp [popped?, rejected]
  | _ => rfl

/-- The elements pushed since the last NEW, after one more event. -/
theorem Block.pushed_of_history {e : Event c} (h : b'.history = b.history ++ [e]) (he : e ≠ .reset) :
    b'.pushed = b.pushed ++ e.pushed?.toList := by
  rw [pushed, h, sinceNew_append, if_neg he, List.filterMap_append, ← pushed]
  cases hv : e.pushed? <;> simp [hv]

/-- The elements popped since the last NEW, after one more event. -/
theorem Block.popped_of_history {e : Event c} (h : b'.history = b.history ++ [e]) (he : e ≠ .reset) :
    b'.popped = b.popped ++ e.popped?.toList := by
  rw [popped, h, sinceNew_append, if_neg he, List.filterMap_append, ← popped]
  cases hv : e.popped? <;> simp [hv]

@[simp] theorem Block.acceptPush_pushed (p : Nat) (v : c.Element) : (b.acceptPush p v).pushed = b.pushed ++ [v] :=
  pushed_of_history (b.acceptPush_history p v) nofun

@[simp] theorem Block.acceptPush_popped (p : Nat) (v : c.Element) : (b.acceptPush p v).popped = b.popped :=
  (popped_of_history (b.acceptPush_history p v) nofun).trans (List.append_nil _)

@[simp] theorem Block.acceptPop_pushed (q : Nat) (v : c.Element) : (b.acceptPop q v).pushed = b.pushed :=
  (pushed_of_history (b.acceptPop_history q v) nofun).trans (List.append_nil _)

@[simp] theorem Block.acceptPop_popped (q : Nat) (v : c.Element) : (b.acceptPop q v).popped = b.popped ++ [v] :=
  popped_of_history (b.acceptPop_history q v) nofun

@[simp] theorem Block.moveWsync_pushed (k : Nat) : (b.moveWsync k).pushed = b.pushed :=
  (pushed_of_history (b.moveWsync_history k) nofun).trans (List.append_nil _)

@[simp] theorem Block.moveWsync_popped (k : Nat) : (b.moveWsync k).popped = b.popped :=
  (popped_of_history (b.moveWsync_history k) nofun).trans (List.append_nil _)

@[simp] theorem Block.moveRsync_pushed (k : Nat) : (b.moveRsync k).pushed = b.pushed :=
  (pushed_of_history (b.moveRsync_history k) nofun).trans (List.append_nil _)

@[simp] theorem Block.moveRsync_popped (k : Nat) : (b.moveRsync k).popped = b.popped :=
  (popped_of_history (b.moveRsync_history k) nofun).trans (List.append_nil _)

@[simp] theorem Block.new_pushed (b : Block c) : (b.cleared.record .reset).pushed = [] := by
  simp [pushed, sinceNew_append]

@[simp] theorem Block.new_popped (b : Block c) : (b.cleared.record .reset).popped = [] := by
  simp [popped, sinceNew_append]

theorem Block.Rests.pushed {e : Event c} (h : b.Rests b' e) : b'.pushed = b.pushed := by
  rw [pushed_of_history h.history (e.ne_reset_of_quiet h.quiet), e.pushed?_of_quiet h.quiet, Option.toList_none,
    List.append_nil]

theorem Block.Rests.popped {e : Event c} (h : b.Rests b' e) : b'.popped = b.popped := by
  rw [popped_of_history h.history (e.ne_reset_of_quiet h.quiet), e.popped?_of_quiet h.quiet, Option.toList_none,
    List.append_nil]

theorem Block.rbin_add_occ (b : Block c) : b.rbin + BitVec.ofNat c.W b.occ.toNat = b.wbin := by
  rw [BitVec.ofNat_toNat, BitVec.setWidth_eq, occ, add_sub_cancel]

/-- An accepted push stores behind the queue, in a slot that holds none of its elements. -/
theorem Block.QueueInv.acceptPush (hW : c.A < c.W) (h : b.QueueInv) (room : b.fullW = false) (p : Nat) (v : c.Element) :
    (b.acceptPush p v).QueueInv := by
  have hroom := h.views.room_of_not_fullW hW room
  obtain ⟨queue, hpushed, hlen, hread⟩ := h.stored
  refine ⟨h.views.acceptPush hW room p v, ?_, ?_, queue ++ [v], ?_, ?_, fun j hj => ?_⟩
  · simp [h.wbin_counts, BitVec.ofNat_add]
  · simp [h.rbin_counts]
  · simp [hpushed]
  · rw [h.views.acceptPush_occ_toNat hW room p v, ← hlen, List.length_append, List.length_singleton]
  · rw [acceptPush_rbin, acceptPush_mem, ← b.rbin_add_occ, ← hlen]
    rcases Nat.lt_or_ge j queue.length with old | new
    · rw [Memory.read_write_ne _ _ (slotOf_ne hW b.rbin old (by omega)), hread j old, List.getElem_append_left old]
    · obtain rfl : j = queue.length := by rw [List.length_append, List.length_singleton] at hj; omega
      rw [Memory.read_write_same, List.getElem_concat_length rfl]

/-- An accepted pop takes the head of the queue. -/
theorem Block.QueueInv.acceptPop (h : b.QueueInv) (stored : b.emptyR = false) (q : Nat) {v : c.Element}
    (read : b.mem.read (slotOf c b.rbin) = some v) : (b.acceptPop q v).QueueInv := by
  have hseen := h.views.lagW_lt_of_not_emptyR stored
  obtain ⟨queue, hpushed, hlen, hread⟩ := h.stored
  obtain ⟨u, rest, rfl⟩ := List.exists_cons_of_length_pos (l := queue) (by omega)
  have head : b.mem.read (slotOf c (b.rbin + 0#c.W)) = some u := hread 0 (Nat.succ_pos _)
  obtain rfl : v = u := by rw [BitVec.add_zero, read] at head; exact Option.some.inj head
  refine ⟨h.views.acceptPop stored q v, ?_, ?_, rest, ?_, ?_, fun j hj => ?_⟩
  · simp [h.wbin_counts]
  · simp [h.rbin_counts, BitVec.ofNat_add]
  · simp [hpushed]
  · rw [h.views.acceptPop_occ_toNat stored q v, ← hlen, List.length_cons, Nat.add_sub_cancel]
  · have next : b.rbin + 1 + BitVec.ofNat c.W j = b.rbin + BitVec.ofNat c.W (j + 1) := by
      rw [BitVec.ofNat_add, BitVec.add_assoc, BitVec.add_comm (BitVec.ofNat c.W j)]
      rfl
    rw [acceptPop_rbin, acceptPop_mem, next]
    exact hread (j + 1) (Nat.succ_lt_succ hj)

theorem Block.QueueInv.new (b : Block c) : (b.cleared.record .reset).QueueInv :=
  ⟨.new b, by simp, by simp, [], by simp, by simp [Block.occ], nofun⟩

/-- A block with the cursors, the slots and the accepted commits of a queue is one. -/
theorem Block.QueueInv.congr (h : b.QueueInv) (views : b'.ViewsInv) (wbin : b'.wbin = b.wbin) (rbin : b'.rbin = b.rbin)
    (mem : b'.mem = b.mem) (pushed : b'.pushed = b.pushed) (popped : b'.popped = b.popped) : b'.QueueInv := by
  obtain ⟨-, hwbin, hrbin, hstored⟩ := h
  have occ : b'.occ = b.occ := by rw [Block.occ, wbin, rbin, ← Block.occ]
  exact ⟨views, by rwa [wbin, pushed], by rwa [rbin, popped], by rwa [pushed, popped, occ, rbin, mem]⟩

theorem QueueMove.keeps_queueInv (hW : c.A < c.W) (h : b.QueueInv) (move : QueueMove b b') : b'.QueueInv := by
  have views := move.keeps_viewsInv hW h.views
  cases move with
  | push p v room => exact h.acceptPush hW room p v
  | pop q v stored read => exact h.acceptPop stored q read
  | moveWsync k _ => exact h.congr views rfl rfl rfl (b.moveWsync_pushed k) (b.moveWsync_popped k)
  | moveRsync k _ => exact h.congr views rfl rfl rfl (b.moveRsync_pushed k) (b.moveRsync_popped k)
  | new => exact .new b
  | rest e rests => exact h.congr views rests.wbin rests.rbin rests.mem rests.pushed rests.popped

end QueueInv

/-- Settles O36, move by move: an accepted push adds behind the queue, an accepted pop takes its head, NEW empties it, and
no other step touches it. -/
theorem stepKeepsQueueInv : Obligations.StepKeepsQueueInv := fun _ _ hs h =>
  step_keeps (fun valid inv move => move.queueMove.keeps_queueInv (config_check_eq_none.mp valid).1 inv) h hs

/-! ### Who writes what -/

/-- Settles O19: a step is one transition, and a transition appends one event. -/
theorem everyStepRecordsOneEvent : Obligations.EveryStepRecordsOneEvent := fun _ _ h =>
  step_moves h fun _ move => move.event

/-- Settles O45: of the moves that are not NEW, only an accepted push writes the write cursor and a slot, and only an
accepted pop the read cursor. -/
theorem onlyCommitsAndNewMoveCursors : Obligations.OnlyCommitsAndNewMoveCursors := by
  refine fun s t h => step_moves h fun b' move => ?_
  cases move.queueMove with
  | push p v =>
    exact ⟨_, rfl, .inr (.inr ⟨p, v, rfl, rfl, rfl, by simp, fun i hi => Memory.read_write_ne _ v hi⟩),
      .inr (.inl ⟨rfl, rfl⟩)⟩
  | pop q v _ read =>
    exact ⟨_, rfl, .inr (.inl ⟨rfl, rfl, fun _ => rfl⟩), .inr (.inr ⟨q, v, rfl, rfl, rfl, read⟩)⟩
  | moveWsync | moveRsync => exact ⟨_, rfl, .inr (.inl ⟨rfl, rfl, fun _ => rfl⟩), .inr (.inl ⟨rfl, rfl⟩)⟩
  | new => exact ⟨_, rfl, .inl rfl, .inl rfl⟩
  | rest e rests =>
    exact ⟨e, rests.history, .inr (.inl ⟨rests.wbin, rests.wgray, fun i => by rw [rests.mem]⟩),
      .inr (.inl ⟨rests.rbin, rests.rgray⟩)⟩

/-- Settles O46: of the moves that are not NEW, only a synchronizer step writes its copy, and its draw shortens the lag. -/
theorem onlySynchronizersMoveCopies : Obligations.OnlySynchronizersMoveCopies := by
  refine fun s t h => step_moves h fun b' move => ?_
  cases move.queueMove with
  | push | pop => exact ⟨_, rfl, .inr (.inl rfl), .inr (.inl rfl)⟩
  | moveWsync k window =>
    exact ⟨_, rfl, .inr (.inr ⟨rfl, by rw [s.blk.moveWsync_lagW_toNat window]; exact Nat.sub_le ..⟩), .inr (.inl rfl)⟩
  | moveRsync k window =>
    exact ⟨_, rfl, .inr (.inl rfl), .inr (.inr ⟨rfl, by rw [s.blk.moveRsync_lagR_toNat window]; exact Nat.sub_le ..⟩)⟩
  | new => exact ⟨_, rfl, .inl rfl, .inl rfl⟩
  | rest e rests => exact ⟨e, rests.history, .inr (.inl rests.wsync), .inr (.inl rests.rsync)⟩

end Sys2Proof.Machine
end

section
/-! PROOFS. Scope: the slots as the storage of the queue: they are written, they are not overwritten, and they hold every
element not yet returned (spec/20_memory.md section 3). -/

namespace Sys2Proof.Machine

section QueueSlots

variable {c : Config} {b b' : Block c}

/-! ### The slots of the queue -/

/-- The slots of the queue are distinct (spec/10_state.md R35). -/
theorem Block.ViewsInv.queueSlot_ne (hW : c.A < c.W) (h : b.ViewsInv) {i j : Nat} (hij : i < j) (hj : j < b.occ.toNat) :
    slotOf c (b.rbin + BitVec.ofNat c.W i) ≠ slotOf c (b.rbin + BitVec.ofNat c.W j) :=
  slotOf_ne hW b.rbin hij (by have := h.occ_le; omega)

/-- The slot an accepted push writes is none of the queue (spec/20_memory.md R47). -/
theorem Block.ViewsInv.queueSlot_ne_wbin (hW : c.A < c.W) (h : b.ViewsInv) (room : b.fullW = false) {j : Nat}
    (hj : j < b.occ.toNat) : slotOf c (b.rbin + BitVec.ofNat c.W j) ≠ slotOf c b.wbin := by
  have hroom := h.room_of_not_fullW hW room
  rw [← b.rbin_add_occ]
  exact slotOf_ne hW b.rbin hj (by omega)

/-- An accepted push leaves the slots of the queue alone (spec/20_memory.md R47). -/
theorem Block.ViewsInv.acceptPush_read_queueSlot (hW : c.A < c.W) (h : b.ViewsInv) (room : b.fullW = false) (p : Nat)
    (v : c.Element) {j : Nat} (hj : j < b.occ.toNat) :
    (b.acceptPush p v).mem.read (slotOf c (b.rbin + BitVec.ofNat c.W j)) =
      b.mem.read (slotOf c (b.rbin + BitVec.ofNat c.W j)) :=
  Memory.read_write_ne _ v (h.queueSlot_ne_wbin hW room hj)

/-- The slots of the queue are written (spec/20_memory.md R45). -/
theorem Block.QueueInv.queueSlot_isSome (h : b.QueueInv) {j : Nat} (hj : j < b.occ.toNat) :
    (b.mem.read (slotOf c (b.rbin + BitVec.ofNat c.W j))).isSome = true := by
  obtain ⟨queue, -, hlen, hread⟩ := h.stored
  rw [hread j (hlen ▸ hj), Option.isSome_some]

/-- A POP that the empty test lets pass finds its slot written (spec/20_memory.md R46). -/
theorem Block.QueueInv.read_rbin_isSome (h : b.QueueInv) (stored : b.emptyR = false) :
    (b.mem.read (slotOf c b.rbin)).isSome = true := by
  have hseen := h.views.lagW_lt_of_not_emptyR stored
  simpa using h.queueSlot_isSome (j := 0) (by omega)

/-! ### Where a fault mark comes from -/

theorem Block.mem_raise_faults {f g : FaultMark c} : g ∈ (b.raise f).faults ↔ g ∈ b.faults ∨ g = f := by
  rw [raise_faults]
  split_ifs with marked
  · exact (or_iff_left_of_imp fun same => same ▸ marked).symm
  · rw [List.mem_append, List.mem_singleton]

/-- A fault mark after a transition was there before, or NEW found a pending request (spec/70_reset_and_hazards.md R112), or
a POP passed the empty test and found its slot not written (spec/41_pop.md R80). -/
theorem Transition.mem_faults (move : Transition b b') {f : FaultMark c} (hf : f ∈ b'.faults) :
    f ∈ b.faults ∨ f = .resetWhilePending b.pendingPorts ∨
      ∃ q, f = .unwrittenSlotRead (.r q) b.rbin ∧ b.emptyR = false ∧ b.mem.read (slotOf c b.rbin) = none := by
  cases move with
  | resetPending => exact (Block.mem_raise_faults.mp hf).imp_right .inl
  | unwritten q _ stored read =>
    exact (Block.mem_raise_faults.mp hf).imp_right fun same => .inr ⟨q, same, stored, read⟩
  | idleW | idleR | issuePush | issuePop | acceptPush | rejectPush | acceptPop | rejectPop | moveWsync | moveRsync | new
  | reservedCommand | unmodelledForm => exact .inl hf

/-- A transition from a queue with no UNWRITTEN_SLOT_READ mark sets none. -/
theorem Block.QueueInv.no_unwrittenSlotRead (h : b.QueueInv) (move : Transition b b')
    (clean : ∀ port cursor, FaultMark.unwrittenSlotRead port cursor ∉ b.faults) (port : Port) (cursor : c.Cursor) :
    FaultMark.unwrittenSlotRead port cursor ∉ b'.faults := by
  intro marked
  obtain old | reset | ⟨q, -, stored, unwritten⟩ := move.mem_faults marked
  · exact clean port cursor old
  · cases reset
  · exact absurd (h.read_rbin_isSome stored) (by simp [unwritten])

end QueueSlots

/-! ### The obligations -/

/-- Settles O42: the view covers no more than the queue, whose slots are written, and a POP passes the empty test only
with an element in the queue. -/
theorem unwrittenSlotIsNeverRead : Obligations.UnwrittenSlotIsNeverRead := by
  intro s _ h
  refine ⟨fun j hj => h.queueSlot_isSome ?_, fun t hs => ?_⟩
  · rw [h.views.occR_toNat] at hj
    omega
  · obtain ⟨⟨-, unmarked, -⟩, -⟩ := step_transition hs
    exact step_moves hs fun b' move => h.no_unwrittenSlotRead move (by simp [unmarked])

/-- Settles O43: with room the slot of `wbin` lies behind those of the queue, less than N from the first, and no move but an
accepted push writes a slot, NEW apart. -/
theorem acceptedPushOverwritesNoElement : Obligations.AcceptedPushOverwritesNoElement := by
  refine ⟨fun c b hW h => ⟨fun i j hij hj => h.queueSlot_ne hW hij hj, fun room j hj => h.queueSlot_ne_wbin hW room hj⟩,
    fun s t h hs => ?_⟩
  obtain ⟨⟨valid, -⟩, -⟩ := step_transition hs
  have hW := (config_check_eq_none.mp valid).1
  refine step_moves hs fun b' move => ?_
  cases move.queueMove with
  | push p v room =>
    refine ⟨_, rfl, fun _ _ _ same => ?_, fun _ j hj => h.acceptPush_read_queueSlot hW room p v hj⟩
    cases same
    exact ⟨rfl, Memory.read_write_same ..⟩
  | pop | moveWsync | moveRsync => exact ⟨_, rfl, nofun, fun _ _ _ => rfl⟩
  | new => exact ⟨_, rfl, nofun, fun notNew => absurd rfl notNew⟩
  | rest e rests =>
    refine ⟨e, rests.history, fun p cursor v same => ?_, fun _ j _ => by rw [rests.mem]⟩
    exact absurd rests.quiet (by rw [same]; simp [Event.quiet])

/-- Settles O44: the queue is what is pushed and not yet popped, and its length is the occupancy, at most N. -/
theorem elementsAreConserved : Obligations.ElementsAreConserved := by
  intro c b _ h
  obtain ⟨queue, hpushed, hlen, -⟩ := h.stored
  have hocc := h.views.occ_le
  have length : b.pushed.length = b.popped.length + b.occ.toNat := by rw [hpushed, List.length_append, hlen]
  refine ⟨by omega, by omega, ?_, hpushed ▸ List.prefix_append .., fun empty => ?_⟩
  · rw [length, Nat.add_sub_cancel_left, BitVec.ofNat_toNat, BitVec.setWidth_eq]
  · obtain rfl : queue = [] := List.eq_nil_of_length_eq_zero (by rw [hlen, empty]; rfl)
    rw [hpushed, List.append_nil]

end Sys2Proof.Machine
end

section
/-! PROOFS. Encoding: the decoder arm by arm, the fields of a command word, and the issue line that presents one
(spec/30_encoding.md sections 2 to 4). -/

namespace Sys2Proof.Machine

open Sys2Proof.Laws.WordOnPort (opField_commandWord dataField_commandWord)

section Decoder

variable {c : Config} {word : c.Command}

/-! ### The decoder, one equation per arm -/

theorem decode_idle_w (p : Nat) (h : opField word = 0b00#2) : decode c (.w p) word = .ok (.idleW p) := by
  simp only [decode, h]; rfl

theorem decode_idle_r (q : Nat) (h : opField word = 0b00#2) : decode c (.r q) word = .ok (.idleR q) := by
  simp only [decode, h]; rfl

theorem decode_push_w (p : Nat) (h : opField word = 0b01#2) :
    decode c (.w p) word = .ok (.push p (dataField word).toNat) := by
  simp only [decode, h]; rfl

theorem decode_push_r (q : Nat) (h : opField word = 0b01#2) : decode c (.r q) word = .error .pushOnConsumer := by
  simp only [decode, h]; rfl

theorem decode_pop_w (p : Nat) (h : opField word = 0b10#2) : decode c (.w p) word = .error .popOnProducer := by
  simp only [decode, h]; rfl

theorem decode_pop_r (q : Nat) (h : opField word = 0b10#2) : decode c (.r q) word = .ok (.pop q) := by
  simp only [decode, h]; rfl

theorem decode_reserved (port : Port) (h : opField word = 0b11#2) : decode c port word = .error .reservedOp := by
  simp only [decode, h]; rfl

/-- The four values of the op field (spec/30_encoding.md R57). -/
theorem op_cases (op : BitVec 2) : op = 0b00#2 ∨ op = 0b01#2 ∨ op = 0b10#2 ∨ op = 0b11#2 := by
  revert op
  decide

/-- The words that select no instruction are the illegal ones of spec/30_encoding.md R58. -/
theorem decode_error_iff {port : Port} :
    (∃ e, decode c port word = .error e) ↔
      opField word = 0b11#2 ∨ (opField word = 0b10#2 ∧ ∃ p, port = .w p) ∨ (opField word = 0b01#2 ∧ ∃ q, port = .r q) := by
  obtain op | op | op | op := op_cases (opField word) <;> cases port
  case inl.w p => simp [decode_idle_w p op, op]
  case inl.r q => simp [decode_idle_r q op, op]
  case inr.inl.w p => simp [decode_push_w p op, op]
  case inr.inl.r q => simp [decode_push_r q op, op]
  case inr.inr.inl.w p => simp [decode_pop_w p op, op]
  case inr.inr.inl.r q => simp [decode_pop_r q op, op]
  case inr.inr.inr.w p => simp [decode_reserved (.w p) op, op]
  case inr.inr.inr.r q => simp [decode_reserved (.r q) op, op]

/-- Where the op is not PUSH the decoder reads the port and the op alone (spec/30_encoding.md R59). -/
theorem decode_congr_of_not_push {port : Port} {word' : c.Command} (same : opField word = opField word')
    (notPush : opField word ≠ 0b01#2) : decode c port word = decode c port word' := by
  obtain op | op | op | op := op_cases (opField word)
  · cases port with
    | w p => rw [decode_idle_w p op, decode_idle_w p (same ▸ op)]
    | r q => rw [decode_idle_r q op, decode_idle_r q (same ▸ op)]
  · exact absurd op notPush
  · cases port with
    | w p => rw [decode_pop_w p op, decode_pop_w p (same ▸ op)]
    | r q => rw [decode_pop_r q op, decode_pop_r q (same ▸ op)]
  · rw [decode_reserved port op, decode_reserved port (same ▸ op)]

/-! ### The fields of a word -/

/-- An element read as a number is the same element (spec/30_encoding.md R59). -/
theorem elementOf_toNat (x : c.Element) : elementOf c x.toNat = some x := by
  rw [elementOf, if_pos x.isLt, BitVec.ofNat_toNat, BitVec.setWidth_eq]

/-- The bits of the op mask before it is shifted to its place. -/
theorem getElem_three {w j : Nat} (hj : j < 2) : (3#(w + 2))[j] = true := by
  have low : j < w + 2 := Nat.lt_add_left w hj
  simpa [BitVec.getElem_eq_testBit_toNat, Nat.testBit_two_pow_sub_one 2, low] using Nat.le_of_lt_succ hj

/-- The mask `3 << DW` keeps the op field where it stands (spec/30_encoding.md R57). -/
theorem and_opMask (word : c.Command) :
    word &&& (3#(c.DW + 2) <<< c.DW) = (opField word).setWidth (c.DW + 2) <<< c.DW := by
  ext i hi
  obtain low | ⟨j, rfl⟩ : i < c.DW ∨ ∃ j, i = c.DW + j := by
    simpa only [le_iff_exists_add] using Nat.lt_or_ge i c.DW
  · simp [low]
  · have hj : j < 2 := by omega
    simp [opField, getElem_three hj, hj]

/-- The op field of an op value shifted to its place. -/
theorem opField_shifted (op : BitVec 2) : opField (c := c) (op.setWidth (c.DW + 2) <<< c.DW) = op := by
  ext i hi
  simp [opField, hi]

end Decoder

/-! ### The lines of a trace that present something -/

/-- A step takes the first line off the trace and runs it (spec/30_encoding.md R64). -/
theorem step_of_trace {s : State} {l : Line s.cfg} {rest : List (Line s.cfg)} (h : s.trace = l :: rest) :
    step s = runLine { s with trace := rest } l := by
  unfold step
  rw [h]

theorem runLine_issue_of_ok {s : State} {port : Port} {word : s.cfg.Command} {i : Instr}
    (h : decode s.cfg port word = .ok i) : runLine s (.issue port word) = exec i s := by
  simp only [runLine, h]

theorem runLine_issue_of_error {s : State} {port : Port} {word : s.cfg.Command} {e : DecodeError}
    (h : decode s.cfg port word = .error e) : runLine s (.issue port word) = issueIllegal s port word := by
  simp only [runLine, h]

/-- An illegal word on a port of the block is refused, whatever the port holds (spec/60_exceptions.md R101). -/
theorem issueIllegal_of_live {s : State} {port : Port} (live : s.Live) (known : port.exists s.cfg = true)
    (word : s.cfg.Command) : issueIllegal s port word = s.refuse (.reservedCommand port word) := by
  rw [issueIllegal, State.whenLive_of_live live, if_pos known]

/-! ### The obligations -/

/-- Settles O1, form by form: the op field is that of the form, and the data field of a PUSH is its element. -/
theorem decodeOfEncode : Obligations.DecodeOfEncode := by
  intro c i wf
  cases i with
  | idleW p => exact decode_idle_w p (opField_commandWord ..)
  | idleR q => exact decode_idle_r q (opField_commandWord ..)
  | push p v =>
    have fits : v < 2 ^ c.DW := of_decide_eq_true ((Bool.and_eq_true ..).mp wf).2
    refine (decode_push_w p (opField_commandWord ..)).trans ?_
    rw [dataField_commandWord, BitVec.toNat_ofNat, Nat.mod_eq_of_lt fits]
  | pop q => exact decode_pop_r q (opField_commandWord ..)
  | new => rfl

/-- Settles O3: the mask keeps the op field in its place, and shifting an op value there loses none of it. -/
theorem opFieldIsMatchUnderMask : Obligations.OpFieldIsMatchUnderMask := by
  intro c word op
  rw [and_opMask]
  refine ⟨fun same => same ▸ rfl, fun same => ?_⟩
  rw [← opField_shifted (c := c) (opField word), same, opField_shifted]

/-- Settles O4, by the values of the op field and the kinds of port. -/
theorem onlyIllegalWordsRejected : Obligations.OnlyIllegalWordsRejected := fun _ _ _ => decode_error_iff

/-- Settles O5: the arms of IDLE and POP do not read the data field, and that of PUSH reads it whole. -/
theorem dataBitsOnlyForPush : Obligations.DataBitsOnlyForPush :=
  ⟨fun _ _ _ _ => decode_congr_of_not_push, fun _ p _ op => ⟨_, decode_push_w p op, elementOf_toNat _⟩⟩

/-- Settles O2: the words listed are literals, which the decoder reads one by one. -/
theorem listedWordsDecode : Obligations.ListedWordsDecode := by
  unfold Obligations.ListedWordsDecode
  decide

/-- Settles O6: an issue line runs the instruction that its word decodes to, a reset line NEW. -/
theorem stepRunsDecodedInstruction : Obligations.StepRunsDecodedInstruction :=
  ⟨fun _ _ _ _ _ line decoded => (step_of_trace line).trans (runLine_issue_of_ok decoded), fun _ _ => step_of_trace⟩

/-- Settles O14: the decoder rejects the word, so the line is refused, which writes the mark and its event. -/
theorem illegalWordRefused : Obligations.IllegalWordRefused := by
  intro s port word rest live line known illegal
  obtain ⟨e, rejected⟩ := decode_error_iff.mpr illegal
  calc step s
    _ = runLine { s with trace := rest } (.issue port word) := step_of_trace line
    _ = issueIllegal { s with trace := rest } port word := runLine_issue_of_error rejected
    _ = _ := issueIllegal_of_live (State.live_mk live rest s.draws) known word

end Sys2Proof.Machine
end

section
/-! PROOFS. Handshake: the request and done signals, the counts and the data that go with them, and the response words
(spec/30_encoding.md sections 1 and 3). -/

namespace Sys2Proof.Machine

/-! ### The events that move a request signal -/

/-- The port whose request goes up with the event: the issue of a PUSH on a producer port, of a POP on a consumer port. -/
def Event.asks? {c : Config} : Event c → Option Port
  | .issue (.w p) (.push _) => some (.w p)
  | .issue (.r q) .pop => some (.r q)
  | _ => none

/-- The port whose request the event answers. -/
def Event.answers? {c : Config} : Event c → Option Port
  | .commit port _ _ _ _ => some port
  | _ => none

section Ports

variable {c : Config} {b b' : Block c}

theorem Event.asks?_eq_w {e : Event c} {p : Nat} : e.asks? = some (.w p) ↔ ∃ v, e = .issue (.w p) (.push v) := by
  fun_cases Event.asks? e <;> simp_all

theorem Event.asks?_eq_r {e : Event c} {q : Nat} : e.asks? = some (.r q) ↔ e = .issue (.r q) .pop := by
  fun_cases Event.asks? e <;> simp_all

theorem Event.answers?_eq_some {e : Event c} {port : Port} :
    e.answers? = some port ↔ ∃ kind count cursor value, e = .commit port kind count cursor value := by
  cases e <;> simp [answers?]

/-- `done` is up on the port that the last event answers, if it answers one. -/
theorem Block.justCommitted_iff {port : Port} :
    b.justCommitted port = true ↔ b.history.getLast?.bind Event.answers? = some port := by
  cases last : b.history.getLast? with
  | none => simp [justCommitted, last]
  | some e => cases e <;> simp [justCommitted, last, Event.answers?]

/-- After an event, `done` is up on the port it answers. -/
theorem Block.justCommitted_of_history {e : Event c} (h : b'.history = b.history ++ [e]) {port : Port} :
    b'.justCommitted port = true ↔ e.answers? = some port := by
  simp [justCommitted_iff, h]

/-! ### Which ports are pending -/

theorem Block.setWport_isPending (b : Block c) {p : Nat} (known : p < c.P) (x : WPort c) (port : Port) :
    (b.setWport p x).isPending port = true ↔ if port = .w p then ∃ v, x = .pending v else b.isPending port = true := by
  cases port with
  | w p' =>
    by_cases same : p = p'
    · subst same
      cases x <;> simp [isPending, known]
    · simp [isPending, same, Ne.symm same]
  | r q => rw [if_neg nofun]; rfl

theorem Block.setRport_isPending (b : Block c) {q : Nat} (known : q < c.C) (x : RPort) (port : Port) :
    (b.setRport q x).isPending port = true ↔ if port = .r q then x = .pending else b.isPending port = true := by
  cases port with
  | w p => rw [if_neg nofun]; rfl
  | r q' =>
    by_cases same : q = q'
    · subst same
      simp [isPending, known]
    · simp [isPending, same, Ne.symm same]

/-- The assignments of NEW leave no request (spec/70_reset_and_hazards.md R111). -/
theorem Block.cleared_isPending (b : Block c) (port : Port) : b.cleared.isPending port = false := by
  cases port <;> simp [isPending, Vector.getElem?_replicate]

/-- What a transition with event `e` does to the requests of the ports: one that was down goes up, one that was up is
answered and goes down, or all stay as they are. -/
inductive Block.PortMove (b b' : Block c) (e : Event c) : Prop
  | ask (port : Port) (asks : e.asks? = some port) (answers : e.answers? = none) (idle : b.isPending port = false)
      (next : ∀ other, b'.isPending other = true ↔ other = port ∨ b.isPending other = true)
  | answer (port : Port) (asks : e.asks? = none) (answers : e.answers? = some port) (pending : b.isPending port = true)
      (next : ∀ other, b'.isPending other = true ↔ other ≠ port ∧ b.isPending other = true)
  | rest (asks : e.asks? = none) (answers : e.answers? = none) (next : ∀ other, b'.isPending other = b.isPending other)

/-- A request goes up exactly with the event that asks (spec/30_encoding.md R54, R55). -/
theorem Block.PortMove.rises_iff {e : Event c} (move : b.PortMove b' e) (port : Port) :
    (b.isPending port = false ∧ b'.isPending port = true) ↔ e.asks? = some port := by
  cases move with
  | ask own asks _ idle next =>
    rw [asks, next, Option.some.injEq]
    exact ⟨fun ⟨down, up⟩ => (up.resolve_right (by simp [down])).symm, fun same => ⟨same ▸ idle, .inl same.symm⟩⟩
  | answer own asks _ _ next => simp_all
  | rest asks _ next => simp_all

/-- A request goes down exactly with the event that answers it (spec/30_encoding.md R54, R55). -/
theorem Block.PortMove.falls_iff {e : Event c} (move : b.PortMove b' e) (port : Port) :
    (b.isPending port = true ∧ b'.isPending port = false) ↔ e.answers? = some port := by
  rw [← Bool.not_eq_true (b'.isPending port)]
  cases move with
  | ask own _ answers _ next => simp_all
  | answer own _ answers pending next =>
    rw [answers, next, Option.some.injEq]
    exact ⟨fun ⟨up, down⟩ => by_contra fun other => down ⟨Ne.symm other, up⟩,
      fun same => ⟨same ▸ pending, fun ⟨other, _⟩ => other same.symm⟩⟩
  | rest _ answers next => simp_all

/-- A port register that is there is one of the block's. -/
theorem Block.wport_known {p : Nat} {x : WPort c} (h : b.wport[p]? = some x) : p < c.P :=
  (Vector.getElem?_eq_some_iff.mp h).1

theorem Block.rport_known {q : Nat} {x : RPort} (h : b.rport[q]? = some x) : q < c.C :=
  (Vector.getElem?_eq_some_iff.mp h).1

/-- Every transition appends an event that says what it does to the requests. -/
theorem Transition.portMove (move : Transition b b') : ∃ e, b'.history = b.history ++ [e] ∧ b.PortMove b' e := by
  cases move with
  | issuePush p v h =>
    refine ⟨_, rfl, .ask (.w p) rfl rfl (Block.isPending_of_wport_idle h) fun other => ?_⟩
    refine (b.setWport_isPending (Block.wport_known h) (.pending v) other).trans ?_
    split_ifs with same <;> simp [same]
  | issuePop q h =>
    refine ⟨_, rfl, .ask (.r q) rfl rfl (Block.isPending_of_rport_idle h) fun other => ?_⟩
    refine (b.setRport_isPending (Block.rport_known h) .pending other).trans ?_
    split_ifs with same <;> simp [same]
  | acceptPush p v h | rejectPush p v h =>
    refine ⟨_, rfl, .answer (.w p) rfl rfl (Block.isPending_of_wport_pending h) fun other => ?_⟩
    refine (b.setWport_isPending (Block.wport_known h) .idle other).trans ?_
    split_ifs with same <;> simp [same]
  | acceptPop q _ h | rejectPop q _ h =>
    refine ⟨_, rfl, .answer (.r q) rfl rfl (Block.isPending_of_rport_pending h) fun other => ?_⟩
    refine (b.setRport_isPending (Block.rport_known h) .idle other).trans ?_
    split_ifs with same <;> simp [same]
  | new h =>
    exact ⟨_, rfl, .rest rfl rfl fun other =>
      (b.cleared_isPending other).trans (Block.pendingPorts_eq_nil.mp h other).symm⟩
  | idleW | idleR | unwritten | moveWsync | moveRsync | resetPending | reservedCommand | unmodelledForm =>
    exact ⟨_, rfl, .rest rfl rfl fun _ => rfl⟩

/-! ### What a commit answers -/

section Commit

variable (b)

theorem Block.acceptPush_pushCount {p : Nat} (known : p < c.P) (v : c.Element) :
    (b.acceptPush p v).pushCount p = some 1 := by
  simp [pushCount, pushDone, justCommitted_iff, Event.answers?, wrespWord, known]

theorem Block.rejectPush_pushCount {p : Nat} (known : p < c.P) : (b.rejectPush p).pushCount p = some 0 := by
  simp [pushCount, pushDone, justCommitted_iff, Event.answers?, wrespWord, known]

theorem Block.acceptPop_popCount {q : Nat} (known : q < c.C) (v : c.Element) :
    (b.acceptPop q v).popCount q = some 1 := by
  simp [popCount, popDone, justCommitted_iff, Event.answers?, known]

theorem Block.acceptPop_popData {q : Nat} (known : q < c.C) (v : c.Element) :
    (b.acceptPop q v).popData q = some v := by
  simp [popData, popDone, justCommitted_iff, Event.answers?, known]

theorem Block.rejectPop_popCount {q : Nat} (known : q < c.C) (d : c.Element) :
    (b.rejectPop q d).popCount q = some 0 := by
  simp [popCount, popDone, justCommitted_iff, Event.answers?, known]

theorem Block.rejectPop_popData {q : Nat} (known : q < c.C) (d : c.Element) :
    (b.rejectPop q d).popData q = some d := by
  simp [popData, popDone, justCommitted_iff, Event.answers?, known]

end Commit

/-- With `push_done[p]` comes the count of the full test, and with count 1 the element the port held is in the slot of `wbin`
(spec/30_encoding.md R54, spec/40_push.md R68, R69). -/
theorem Transition.push_answered (move : Transition b b') {p : Nat} (done : b'.pushDone p = true) :
    ∃ count v, b'.pushCount p = some count ∧ (count = 0 ↔ b.fullW = true) ∧ b.pushData p = some v ∧
      (count = 1 → b'.mem.read (slotOf c b.wbin) = some v) := by
  cases move with
  | acceptPush own v h room =>
    obtain rfl : own = p := by simpa [Block.pushDone, Block.justCommitted_iff, Event.answers?] using done
    exact ⟨1, v, b.acceptPush_pushCount (Block.wport_known h) v, by simp [room], Block.pushData_of_wport_pending h,
      fun _ => Memory.read_write_same ..⟩
  | rejectPush own v h full =>
    obtain rfl : own = p := by simpa [Block.pushDone, Block.justCommitted_iff, Event.answers?] using done
    exact ⟨0, v, b.rejectPush_pushCount (Block.wport_known h), by simp [full], Block.pushData_of_wport_pending h, nofun⟩
  | idleW | idleR | issuePush | issuePop | acceptPop | rejectPop | unwritten | moveWsync | moveRsync | new | resetPending
  | reservedCommand | unmodelledForm =>
    simp [Block.pushDone, Block.justCommitted_iff, Event.answers?] at done

/-- With `pop_done[q]` come data and the count of the empty test, and with count 1 the data are the element of the slot of
`rbin` (spec/30_encoding.md R55, spec/41_pop.md R78, R79). -/
theorem Transition.pop_answered (move : Transition b b') {q : Nat} (done : b'.popDone q = true) :
    ∃ count v, b'.popCount q = some count ∧ (count = 0 ↔ b.emptyR = true) ∧ b'.popData q = some v ∧
      (count = 1 → b.mem.read (slotOf c b.rbin) = some v) := by
  cases move with
  | acceptPop own v h stored read =>
    obtain rfl : own = q := by simpa [Block.popDone, Block.justCommitted_iff, Event.answers?] using done
    have known := Block.rport_known h
    exact ⟨1, v, b.acceptPop_popCount known v, by simp [stored], b.acceptPop_popData known v, fun _ => read⟩
  | rejectPop own d h empty =>
    obtain rfl : own = q := by simpa [Block.popDone, Block.justCommitted_iff, Event.answers?] using done
    have known := Block.rport_known h
    exact ⟨0, d, b.rejectPop_popCount known d, by simp [empty], b.rejectPop_popData known d, nofun⟩
  | idleW | idleR | issuePush | issuePop | acceptPush | rejectPush | unwritten | moveWsync | moveRsync | new | resetPending
  | reservedCommand | unmodelledForm =>
    simp [Block.popDone, Block.justCommitted_iff, Event.answers?] at done

/-- A count is there only with `push_done`. -/
theorem Block.pushDone_of_pushCount {p : Nat} {count : Count} (h : b.pushCount p = some count) : b.pushDone p = true := by
  by_contra down
  simp [pushCount, down] at h

/-- A count is there only with `pop_done`. -/
theorem Block.popDone_of_popCount {q : Nat} {count : Count} (h : b.popCount q = some count) : b.popDone q = true := by
  by_contra down
  simp [popCount, down] at h

/-! ### The data of a request -/

/-- The issue of a PUSH drives `push_data` with its element (spec/30_encoding.md R54). -/
theorem Transition.pushData_of_issue (move : Transition b b') {p : Nat} {v : c.Element}
    (issued : b'.history = b.history ++ [.issue (.w p) (.push v)]) : b'.pushData p = some v := by
  cases move with
  | issuePush own x h =>
    obtain ⟨rfl, rfl⟩ : own = p ∧ x = v := by simpa using issued
    exact Block.pushData_of_wport_pending (by simp [Block.wport_known h])
  | idleW | idleR | issuePop | acceptPush | rejectPush | acceptPop | rejectPop | unwritten | moveWsync | moveRsync | new
  | resetPending | reservedCommand | unmodelledForm => simp at issued

theorem Block.setWport_pushData_of_ne {own p : Nat} (other : own ≠ p) (x : WPort c) :
    (b.setWport own x).pushData p = b.pushData p := by
  simp [pushData, other]

/-- While a request stays up its data stay as they are (spec/30_encoding.md R54). -/
theorem Transition.pushData_of_held (move : Transition b b') {p : Nat} (before : b.pushReq p = true)
    (after : b'.pushReq p = true) : b'.pushData p = b.pushData p := by
  cases move with
  | issuePush own x h =>
    refine Block.setWport_pushData_of_ne ?_ _
    rintro rfl
    exact absurd before (by simp [Block.pushReq, Block.isPending_of_wport_idle h])
  | acceptPush own x h | rejectPush own x h =>
    refine Block.setWport_pushData_of_ne ?_ _
    rintro rfl
    simpa using (b.setWport_isPending (Block.wport_known h) .idle (.w own)).mp after
  | new h => exact absurd before (by simp [Block.pushReq, Block.pendingPorts_eq_nil.mp h])
  | idleW | idleR | issuePop | acceptPop | rejectPop | unwritten | moveWsync | moveRsync | resetPending | reservedCommand
  | unmodelledForm => rfl

/-! ### The response words -/

/-- The fields of the word `{count, data}` (spec/30_encoding.md R61). -/
theorem extract_count (count : Count) (data : c.Element) :
    ((count ++ data).cast (Nat.add_comm 1 c.DW)).extractLsb' c.DW 1 = count := by
  ext i hi
  simp [BitVec.getLsbD_append, BitVec.getLsbD_eq_getElem hi]

theorem extract_data (count : Count) (data : c.Element) :
    ((count ++ data).cast (Nat.add_comm 1 c.DW)).extractLsb' 0 c.DW = data := by
  ext i hi
  simp [BitVec.getLsbD_append, hi]

theorem Block.rrespWord_of_rresp (b : Block c) {q : Nat} {r : PopResponse c} (h : b.rresp[q]? = some (some r)) :
    b.rrespWord q = some ((r.count ++ r.data).cast (Nat.add_comm 1 c.DW)) := by
  simp [rrespWord, h]

theorem Block.wrespWord_of_wresp (b : Block c) {p : Nat} {count : Count} (h : b.wresp[p]? = some (some count)) :
    b.wrespWord p = some count := by
  simp [wrespWord, h]

/-- An issue takes the response word of its port away. -/
theorem Block.issuePush_wrespWord (b : Block c) (p : Nat) (v : c.Element) : (b.issuePush p v).wrespWord p = none := by
  simp [wrespWord, Vector.getElem?_setIfInBounds, apply_ite Option.join]

theorem Block.issuePop_rrespWord (b : Block c) (q : Nat) : (b.issuePop q).rrespWord q = none := by
  simp [rrespWord, Vector.getElem?_setIfInBounds, apply_ite Option.join]

end Ports

/-! ### The obligations -/

/-- Settles O56: the event of the step names the port whose request goes up, or the port that is answered and whose request
goes down, and the last event is what `done` shows. -/
theorem handshakeSignals : Obligations.HandshakeSignals := by
  refine fun s t h => step_moves h fun b' move => ?_
  obtain ⟨e, history, ports⟩ := move.portMove
  have done (port : Port) := Block.justCommitted_of_history history (port := port)
  refine ⟨e, history, fun p => ⟨?_, ?_, ?_, fun up => ?_⟩, fun q => ⟨?_, ?_, ?_, fun up => ?_⟩⟩
  · exact (ports.rises_iff _).trans Event.asks?_eq_w
  · exact (done _).trans Event.answers?_eq_some
  · exact (done _).trans (ports.falls_iff _).symm
  · obtain ⟨count, -, given, test, -⟩ := move.push_answered up
    exact ⟨count, given, test⟩
  · exact (ports.rises_iff _).trans Event.asks?_eq_r
  · exact (done _).trans Event.answers?_eq_some
  · exact (done _).trans (ports.falls_iff _).symm
  · obtain ⟨count, -, given, test, -⟩ := move.pop_answered up
    exact ⟨count, given, test⟩

/-- Settles O57: the port holds the element from issue to commit, and the commit moves it to or from the slot. -/
theorem handshakeData : Obligations.HandshakeData := by
  refine fun s t h => step_moves h fun b' move => ?_
  obtain ⟨e, history⟩ := move.event
  refine ⟨e, history, fun p => ⟨?_, move.pushData_of_held, fun accepted => ?_⟩, fun q => ⟨fun up => ?_, fun accepted => ?_⟩⟩
  · rintro v rfl
    exact move.pushData_of_issue history
  · obtain ⟨count, v, given, -, held, stored⟩ := move.push_answered (Block.pushDone_of_pushCount accepted)
    exact ⟨v, held, stored (Option.some.inj (given.symm.trans accepted))⟩
  · obtain ⟨-, v, -, -, data, -⟩ := move.pop_answered up
    exact ⟨v, data⟩
  · obtain ⟨count, v, given, -, data, read⟩ := move.pop_answered (Block.popDone_of_popCount accepted)
    exact ⟨v, data, read (Option.some.inj (given.symm.trans accepted))⟩

/-- Settles O55: a response register gives the word, its fields are count and data, and an issue clears the register. -/
theorem responseWords : Obligations.ResponseWords := fun _ b =>
  ⟨fun _ _ held => b.wrespWord_of_wresp held,
    fun _ r held => ⟨_, b.rrespWord_of_rresp held, extract_count r.count r.data, extract_data r.count r.data⟩,
    b.issuePush_wrespWord, b.issuePop_rrespWord⟩

end Sys2Proof.Machine
end

section
/-! PROOFS. Scope: the order of the pushes and pops in the history: the cursors they claim are consecutive, each producer
port is answered in the order of its issues, and no pending push waits for ever (spec/40_push.md R70 to R72,
spec/41_pop.md R81). -/

namespace Sys2Proof.Machine

section Orders

variable {c : Config} {b b' : Block c}

/-- What is selected from the history since the last NEW, after one more event. -/
theorem Block.filterMap_of_history {α : Type} (f : Event c → Option α) {e : Event c}
    (history : b'.history = b.history ++ [e]) (notNew : e ≠ .reset) :
    (sinceNew b'.history).filterMap f = (sinceNew b.history).filterMap f ++ (f e).toList := by
  rw [history, sinceNew_append, if_neg notNew, List.filterMap_append]
  cases he : f e <;> simp [he]

/-- NEW leaves no event in the history since the last NEW. -/
theorem sinceNew_append_reset (history : List (Event c)) : sinceNew (history ++ [Event.reset]) = [] := by
  rw [sinceNew_append, if_pos rfl]

/-! ### The cursors claimed -/

theorem Event.pushCursor?_of_quiet {e : Event c} (h : e.quiet = true) : e.pushCursor? = none := by
  cases e with
  | commit port kind count cursor value =>
    have rejected : count ≠ 1#1 := of_decide_eq_true h
    cases port <;> cases kind <;> simp [pushCursor?, rejected]
  | _ => rfl

theorem Event.popCursor?_of_quiet {e : Event c} (h : e.quiet = true) : e.popCursor? = none := by
  cases e with
  | commit port kind count cursor value =>
    have rejected : count ≠ 1#1 := of_decide_eq_true h
    cases port <;> cases kind <;> simp [popCursor?, rejected]
  | _ => rfl

/-- One more claim, of the next cursor, leaves the claims consecutive. -/
theorem claims_succ (n : Nat) :
    (List.range (n + 1)).map (BitVec.ofNat c.W) = (List.range n).map (BitVec.ofNat c.W) ++ [BitVec.ofNat c.W n] := by
  rw [List.range_succ, List.map_append, List.map_singleton]

/-- An accepted push claims `wbin`, the cursor after the last claim (spec/40_push.md R70). -/
theorem Block.ClaimsInv.acceptPush (h : b.ClaimsInv) (p : Nat) (v : c.Element) : (b.acceptPush p v).ClaimsInv where
  pushes := by
    rw [filterMap_of_history _ (b.acceptPush_history p v) nofun, h.pushes, acceptPush_pushed, List.length_append,
      List.length_singleton, claims_succ, ← h.wbin_next]
    rfl
  pops := by
    rw [filterMap_of_history _ (b.acceptPush_history p v) nofun, h.pops, acceptPush_popped]
    exact List.append_nil _
  wbin_next := by simp [h.wbin_next, BitVec.ofNat_add]
  rbin_next := by simp [h.rbin_next]

/-- An accepted pop claims `rbin`, the cursor after the last claim (spec/41_pop.md R81). -/
theorem Block.ClaimsInv.acceptPop (h : b.ClaimsInv) (q : Nat) (v : c.Element) : (b.acceptPop q v).ClaimsInv where
  pushes := by
    rw [filterMap_of_history _ (b.acceptPop_history q v) nofun, h.pushes, acceptPop_pushed]
    exact List.append_nil _
  pops := by
    rw [filterMap_of_history _ (b.acceptPop_history q v) nofun, h.pops, acceptPop_popped, List.length_append,
      List.length_singleton, claims_succ, ← h.rbin_next]
    rfl
  wbin_next := by simp [h.wbin_next]
  rbin_next := by simp [h.rbin_next, BitVec.ofNat_add]

/-- NEW takes both cursors and both counts back to 0. -/
theorem Block.ClaimsInv.new (b : Block c) : (b.cleared.record .reset).ClaimsInv := by
  constructor <;> simp [sinceNew_append_reset]

/-- A block with the cursors and the accepted commits of `b`, after an event that claims nothing. -/
theorem Block.ClaimsInv.of_quiet (h : b.ClaimsInv) {e : Event c} (history : b'.history = b.history ++ [e])
    (quiet : e.quiet = true) (wbin : b'.wbin = b.wbin) (rbin : b'.rbin = b.rbin) : b'.ClaimsInv := by
  have notNew := e.ne_reset_of_quiet quiet
  have pushed : b'.pushed = b.pushed := by simp [pushed_of_history history notNew, e.pushed?_of_quiet quiet]
  have popped : b'.popped = b.popped := by simp [popped_of_history history notNew, e.popped?_of_quiet quiet]
  refine ⟨?_, ?_, by rw [wbin, pushed, h.wbin_next], by rw [rbin, popped, h.rbin_next]⟩
  · rw [filterMap_of_history _ history notNew, e.pushCursor?_of_quiet quiet, h.pushes, pushed]
    exact List.append_nil _
  · rw [filterMap_of_history _ history notNew, e.popCursor?_of_quiet quiet, h.pops, popped]
    exact List.append_nil _

theorem QueueMove.keeps_claimsInv (h : b.ClaimsInv) (move : QueueMove b b') : b'.ClaimsInv := by
  cases move with
  | push p v _ => exact h.acceptPush p v
  | pop q v _ _ => exact h.acceptPop q v
  | moveWsync k _ => exact h.of_quiet (b.moveWsync_history k) rfl rfl rfl
  | moveRsync k _ => exact h.of_quiet (b.moveRsync_history k) rfl rfl rfl
  | new => exact .new b
  | rest e rests => exact h.of_quiet rests.history rests.quiet rests.wbin rests.rbin

/-! ### The requests of one producer port -/

/-- What a transition with event `e` does to producer port `p`: an Idle port takes a request, a pending one is answered with
its own element or rejected, NEW leaves the port Idle, or the port stays as it is. -/
inductive Block.RequestMove (b b' : Block c) (p : Nat) (e : Event c) : Prop
  | ask (v : c.Element) (idle : b.wport[p]? = some .idle) (held : b'.wport[p]? = some (.pending v))
      (issued : e.issuedOn? p = some v) (outcome : e.outcomeOn? p = none)
  | answer (v : c.Element) (o : Option c.Element) (held : b.wport[p]? = some (.pending v))
      (idle : b'.wport[p]? = some .idle) (own : o = none ∨ o = some v) (issued : e.issuedOn? p = none)
      (outcome : e.outcomeOn? p = some o)
  | new (reset : e = .reset) (idle : ∀ port, b'.wport[p]? = some port → port = .idle)
  | rest (same : b'.wport[p]? = b.wport[p]?) (notNew : e ≠ .reset) (issued : e.issuedOn? p = none)
      (outcome : e.outcomeOn? p = none)

/-- A port register reads back what was written to it. -/
theorem Block.setWport_same (b : Block c) {p : Nat} (known : p < c.P) (x : WPort c) :
    (b.setWport p x).wport[p]? = some x := by
  simp [known]

/-- A write to one port register leaves the others alone. -/
theorem Block.setWport_ne (b : Block c) {own p : Nat} (other : own ≠ p) (x : WPort c) :
    (b.setWport own x).wport[p]? = b.wport[p]? := by
  simp [other]

/-- An issue or a commit on another port leaves a port as it is. -/
theorem Block.RequestMove.of_other {own p : Nat} (other : own ≠ p) {e : Event c} {x : WPort c}
    (wport : b'.wport = b.wport.setIfInBounds own x)
    (event : (∃ cmd, e = .issue (.w own) cmd) ∨ ∃ kind count cursor value, e = .commit (.w own) kind count cursor value) :
    b.RequestMove b' p e := by
  have same : b'.wport[p]? = b.wport[p]? := by rw [wport]; exact b.setWport_ne other x
  obtain ⟨cmd, rfl⟩ | ⟨kind, count, cursor, value, rfl⟩ := event
  · exact .rest same nofun (by cases cmd <;> simp [Event.issuedOn?, other]) rfl
  · exact .rest same nofun rfl (by cases kind <;> simp [Event.outcomeOn?, other])

/-- Every transition makes one of these moves on every producer port. -/
theorem Transition.requestMove (move : Transition b b') (p : Nat) :
    ∃ e, b'.history = b.history ++ [e] ∧ b.RequestMove b' p e := by
  cases move with
  | issuePush own v h =>
    refine ⟨_, rfl, ?_⟩
    by_cases same : own = p
    · subst same
      exact .ask v h (b.setWport_same (Block.wport_known h) _) (if_pos rfl) rfl
    · exact .of_other same rfl (.inl ⟨_, rfl⟩)
  | acceptPush own v h | rejectPush own v h =>
    refine ⟨_, rfl, ?_⟩
    by_cases same : own = p
    · subst same
      exact .answer v _ h (b.setWport_same (Block.wport_known h) _) (by simp) rfl (if_pos rfl)
    · exact .of_other same rfl (.inr ⟨_, _, _, _, rfl⟩)
  | new => exact ⟨_, rfl, .new rfl fun port held => by simp_all [Vector.getElem?_replicate]⟩
  | idleW | idleR | issuePop | acceptPop | rejectPop | unwritten | moveWsync | moveRsync | resetPending | reservedCommand
  | unmodelledForm => exact ⟨_, rfl, .rest (by simp) nofun rfl rfl⟩

/-- `done` are the requests of a producer port answered since the last NEW, in the order of their issues, where the port
holds `port`: one port's part of the invariant of spec/40_push.md R72. -/
def Block.AnsweredInOrder (b : Block c) (p : Nat) (port : WPort c) (done : List c.Element) : Prop :=
  (sinceNew b.history).filterMap (Event.issuedOn? p) = done ++ port.held ∧
  List.Forall₂ (fun v outcome => outcome = none ∨ outcome = some v) done
    ((sinceNew b.history).filterMap (Event.outcomeOn? p))

/-- The invariant port by port. -/
theorem Block.portOrderInv_iff :
    b.PortOrderInv ↔ ∀ (p : Nat) (port : WPort c), b.wport[p]? = some port → ∃ done, b.AnsweredInOrder p port done :=
  Iff.rfl

/-- The elements a port was issued and its outcomes after one more event. -/
theorem Block.answeredInOrder_of_history {p : Nat} {e : Event c} (history : b'.history = b.history ++ [e])
    (notNew : e ≠ .reset) {port : WPort c} {done : List c.Element} :
    b'.AnsweredInOrder p port done ↔
      (sinceNew b.history).filterMap (Event.issuedOn? p) ++ (e.issuedOn? p).toList = done ++ port.held ∧
      List.Forall₂ (fun v outcome => outcome = none ∨ outcome = some v) done
        ((sinceNew b.history).filterMap (Event.outcomeOn? p) ++ (e.outcomeOn? p).toList) := by
  rw [AnsweredInOrder, filterMap_of_history _ history notNew, filterMap_of_history _ history notNew]

/-- A port that took a request holds it behind the requests answered; a port that was answered moves it over to those. -/
theorem Block.RequestMove.keeps_order {p : Nat} {e : Event c} (move : b.RequestMove b' p e)
    (history : b'.history = b.history ++ [e])
    (before : ∀ port, b.wport[p]? = some port → ∃ done, b.AnsweredInOrder p port done) {port : WPort c}
    (after : b'.wport[p]? = some port) : ∃ done, b'.AnsweredInOrder p port done := by
  cases move with
  | ask v idle held issued outcome =>
    have notNew : e ≠ .reset := by rintro rfl; cases issued
    obtain rfl : port = .pending v := Option.some.inj (after.symm.trans held)
    obtain ⟨done, order, answers⟩ := before _ idle
    refine ⟨done, (answeredInOrder_of_history history notNew).mpr ⟨?_, ?_⟩⟩
    · simp [order, issued, WPort.held]
    · simpa [outcome] using answers
  | answer v o held idle own issued outcome =>
    have notNew : e ≠ .reset := by rintro rfl; cases outcome
    obtain rfl : port = .idle := Option.some.inj (after.symm.trans idle)
    obtain ⟨done, order, answers⟩ := before _ held
    refine ⟨done ++ [v], (answeredInOrder_of_history history notNew).mpr ⟨?_, ?_⟩⟩
    · simp [order, issued, WPort.held]
    · rw [outcome]
      exact List.rel_append answers (.cons own .nil)
  | new reset idle =>
    obtain rfl := idle port after
    refine ⟨[], ?_⟩
    simp [AnsweredInOrder, history, reset, sinceNew_append_reset, WPort.held]
  | rest same notNew issued outcome =>
    obtain ⟨done, order, answers⟩ := before port (same ▸ after)
    refine ⟨done, (answeredInOrder_of_history history notNew).mpr ⟨?_, ?_⟩⟩
    · simp [order, issued]
    · simpa [outcome] using answers

theorem Transition.keeps_portOrderInv (h : b.PortOrderInv) (move : Transition b b') : b'.PortOrderInv := by
  refine Block.portOrderInv_iff.mpr fun p port after => ?_
  obtain ⟨e, history, request⟩ := move.requestMove p
  exact request.keeps_order history (h p) after

/-! ### The answer to a pending push -/

/-- A request that a transition takes down is answered: the response register holds a count (spec/40_push.md R68, R69). -/
theorem Transition.wresp_of_answered (move : Transition b b') {p : Nat} (up : b.isPending (.w p) = true)
    (down : b'.isPending (.w p) = false) : ∃ count, b'.wresp[p]? = some (some count) := by
  obtain ⟨e, history, ports⟩ := move.portMove
  have done : b'.pushDone p = true :=
    (Block.justCommitted_of_history history).mpr ((ports.falls_iff _).mp ⟨up, down⟩)
  obtain ⟨count, -, given, -⟩ := move.push_answered done
  rw [Block.pushCount, if_pos done] at given
  exact ⟨count, Option.join_eq_some_iff.mp given⟩

/-- The number of PUSH commits never falls (spec/10_state.md R30). -/
theorem step_pushCommits_le {s t : State} (h : step s = .next t) : s.pushCommits ≤ t.pushCommits := by
  obtain ⟨-, b', n, rfl, move⟩ := step_transition h
  obtain ⟨e, history⟩ := move.event
  simp only [State.pushCommits, history, List.countP_append]
  exact Nat.le_add_right ..

/-- A step that takes a request down answers it. -/
theorem step_wresp_of_answered {s t : State} (h : step s = .next t) {p : Nat} (up : s.blk.isPending (.w p) = true)
    (down : t.blk.isPending (.w p) = false) : ∃ count, t.blk.wresp[p]? = some (some count) := by
  obtain ⟨-, b', n, rfl, move⟩ := step_transition h
  exact move.wresp_of_answered up down

/-- A request that is up at one step of a run and down at a later one was answered by a step between them. -/
theorem IsRun.answered_between {run : Nat → State} (hrun : IsRun run) {n m p : Nat} (later : n ≤ m)
    (up : (run n).blk.isPending (.w p) = true) (down : (run m).blk.isPending (.w p) = false) :
    ∃ k count, n < k ∧ k ≤ m ∧ (run k).blk.wresp[p]? = some (some count) := by
  induction m, later using Nat.le_induction with
  | base => exact absurd up (by simp [down])
  | succ m later ih =>
    cases still : (run m).blk.isPending (.w p) with
    | true =>
      obtain ⟨count, answered⟩ := step_wresp_of_answered (hrun m) still down
      exact ⟨m + 1, count, Nat.lt_succ_of_le later, Nat.le_refl _, answered⟩
    | false =>
      obtain ⟨k, count, after, before, answered⟩ := ih still
      exact ⟨k, count, after, Nat.le_succ_of_le before, answered⟩

end Orders

/-! ### The obligations -/

/-- Settles O37, move by move: an accepted commit claims the cursor that counts the claims before it, and no other step
claims one. -/
theorem stepKeepsClaimsConsecutive : Obligations.StepKeepsClaimsConsecutive := fun _ _ hs h =>
  step_keeps (Inv := Block.ClaimsInv) (fun _ inv move => move.queueMove.keeps_claimsInv inv) h hs

/-- Settles O38: a port takes a request only when it holds none, and its commit answers the one it holds. -/
theorem stepKeepsPerProducerOrder : Obligations.StepKeepsPerProducerOrder := fun _ _ hs h =>
  step_keeps (Inv := Block.PortOrderInv) (fun _ inv move => move.keeps_portOrderInv inv) h hs

/-- Settles O53: the arbiter takes the request down within the bound, the step that does so answers it, and no PUSH commit
leaves the history. -/
theorem pendingPushIsAnswered : Obligations.PendingPushIsAnswered := by
  intro run bound n p hrun fair up
  obtain ⟨m, later, down, within⟩ := fair n p up
  obtain ⟨k, count, after, before, answered⟩ := hrun.answered_between later.le up down
  have grows : Monotone fun i => (run i).pushCommits := monotone_nat_of_le_succ fun i => step_pushCommits_le (hrun i)
  exact ⟨k, count, after, answered, (grows before).trans within⟩

end Sys2Proof.Machine
end

section
/-! PROOFS. Scope: the steps of the write port: what an issue and a commit answer on a live state, that an issue leaves all but
its own port, and that a producer port's step sees and writes the write domain alone (spec/40_push.md R65 to R69, R71, R73,
R74; spec/41_pop.md R75, R76, R83). -/

namespace Sys2Proof.Machine

/-! ### What a step answers on a live state -/

section Answers

variable {s : State}

/-- The cursors of a live machine are wide enough (spec/00_scope.md R11). -/
theorem State.Live.cursor_wide (live : s.Live) : s.cfg.A < s.cfg.W := (config_check_eq_none.mp live.1).1

theorem State.whenWportIdle_of_idle {p : Nat} (idle : s.blk.wport[p]? = some .idle) (a : Answer) :
    s.whenWportIdle p a = a := by
  simp only [whenWportIdle, idle]

theorem State.whenRportIdle_of_idle {q : Nat} (idle : s.blk.rport[q]? = some .idle) (a : Answer) :
    s.whenRportIdle q a = a := by
  simp only [whenRportIdle, idle]

theorem elementOf_of_lt {c : Config} {v : Nat} (fits : v < 2 ^ c.DW) : elementOf c v = some (BitVec.ofNat c.DW v) :=
  if_pos fits

/-- IDLE_W on an Idle port (spec/40_push.md R65). -/
theorem execIdleW_of_idle (live : s.Live) {p : Nat} (idle : s.blk.wport[p]? = some .idle) :
    execIdleW p s = .next (s.withBlk (s.blk.record (.issue (.w p) .idle))) := by
  rw [execIdleW, State.whenLive_of_live live, State.whenWportIdle_of_idle idle]

/-- IDLE_R on an Idle port (spec/41_pop.md R75). -/
theorem execIdleR_of_idle (live : s.Live) {q : Nat} (idle : s.blk.rport[q]? = some .idle) :
    execIdleR q s = .next (s.withBlk (s.blk.record (.issue (.r q) .idle))) := by
  rw [execIdleR, State.whenLive_of_live live, State.whenRportIdle_of_idle idle]

/-- PUSH of an element of DW bits on an Idle port (spec/40_push.md R66). -/
theorem execPush_of_idle (live : s.Live) {p v : Nat} {x : s.cfg.Element} (element : elementOf s.cfg v = some x)
    (idle : s.blk.wport[p]? = some .idle) : execPush p v s = .next (s.withBlk (s.blk.issuePush p x)) := by
  rw [execPush, State.whenLive_of_live live]
  simp only [element]
  exact State.whenWportIdle_of_idle idle _

/-- The commit of a pending PUSH, decided by the full test (spec/40_push.md R67). -/
theorem commitPush_of_pending (live : s.Live) {p : Nat} {v : s.cfg.Element} (held : s.blk.wport[p]? = some (.pending v)) :
    commitPush p s = .next (s.withBlk (if s.blk.fullW then s.blk.rejectPush p else s.blk.acceptPush p v)) := by
  rw [commitPush, State.whenLive_of_live live]
  simp only [held]

/-- The commit of a pending PUSH where the full test fails (spec/40_push.md R68). -/
theorem commitPush_of_room (live : s.Live) {p : Nat} {v : s.cfg.Element} (held : s.blk.wport[p]? = some (.pending v))
    (room : s.blk.fullW = false) : commitPush p s = .next (s.withBlk (s.blk.acceptPush p v)) := by
  rw [commitPush_of_pending live held, room]
  rfl

/-- The commit of a pending PUSH where the full test holds (spec/40_push.md R69). -/
theorem commitPush_of_full (live : s.Live) {p : Nat} {v : s.cfg.Element} (held : s.blk.wport[p]? = some (.pending v))
    (full : s.blk.fullW = true) : commitPush p s = .next (s.withBlk (s.blk.rejectPush p)) := by
  rw [commitPush_of_pending live held, full]
  rfl

end Answers

/-! ### The flags, and the write domain's view after a push -/

section Flags

variable {c : Config} (b : Block c)

/-- `full_w` is a function of the write cursor and its copy of the read cursor (spec/10_state.md R27). -/
theorem Block.fullW_congr {b b' : Block c} (wbin : b'.wbin = b.wbin) (rsync : b'.rsync = b.rsync) :
    b'.fullW = b.fullW := by
  rw [fullW, occW, wbin, rsync, ← occW, ← fullW]

/-- `empty_r` is a function of the read cursor and its copy of the write cursor (spec/10_state.md R28). -/
theorem Block.emptyR_congr {b b' : Block c} (rbin : b'.rbin = b.rbin) (wsync : b'.wsync = b.wsync) :
    b'.emptyR = b.emptyR := by
  rw [emptyR, occR, rbin, wsync, ← occR, ← emptyR]

theorem Block.fullW_eq_false_iff : b.fullW = false ↔ b.occW.toNat < c.N := by simp [fullW]

theorem Block.fullW_eq_true_iff : b.fullW = true ↔ c.N ≤ b.occW.toNat := by simp [fullW]

/-- An accepted push makes the write domain's view one more. -/
theorem Block.acceptPush_occW_toNat {b : Block c} (hW : c.A < c.W) (room : b.occW.toNat < c.N) (p : Nat) (v : c.Element) :
    (b.acceptPush p v).occW.toNat = b.occW.toNat + 1 := by
  have view : (b.acceptPush p v).occW = b.occW + 1 := add_sub_right_comm ..
  rw [view, toNat_add_one_of_lt (by have := config_N_lt hW; omega)]

end Flags

/-! ### What an issue leaves -/

section Issue

variable {c : Config} {b b' : Block c}

/-- What the issue of `i` does to the block, on an Idle port (spec/40_push.md R65, R66; spec/41_pop.md R75, R76). -/
inductive Block.IssueMove (b : Block c) : Instr → Block c → Prop
  | idleW (p : Nat) (idle : b.wport[p]? = some .idle) : IssueMove b (.idleW p) (b.record (.issue (.w p) .idle))
  | idleR (q : Nat) (idle : b.rport[q]? = some .idle) : IssueMove b (.idleR q) (b.record (.issue (.r q) .idle))
  | push (p v : Nat) (x : c.Element) (element : elementOf c v = some x) (idle : b.wport[p]? = some .idle) :
      IssueMove b (.push p v) (b.issuePush p x)
  | pop (q : Nat) (idle : b.rport[q]? = some .idle) : IssueMove b (.pop q) (b.issuePop q)

/-- An instruction other than NEW answers a next state only by its issue. -/
theorem exec_issueMove {i : Instr} {s t : State} (notNew : i ≠ .new) (h : exec i s = .next t) :
    s.Live ∧ ∃ b, t = s.withBlk b ∧ s.blk.IssueMove i b := by
  cases i with
  | idleW p =>
    obtain ⟨live, h⟩ := State.whenLive_next h
    obtain ⟨idle, h⟩ := State.whenWportIdle_next h
    cases h
    exact ⟨live, _, rfl, .idleW p idle⟩
  | idleR q =>
    obtain ⟨live, h⟩ := State.whenLive_next h
    obtain ⟨idle, h⟩ := State.whenRportIdle_next h
    cases h
    exact ⟨live, _, rfl, .idleR q idle⟩
  | push p v =>
    obtain ⟨live, h⟩ := State.whenLive_next h
    split at h
    case h_1 => cases h
    case h_2 x element =>
      obtain ⟨idle, h⟩ := State.whenWportIdle_next h
      cases h
      exact ⟨live, _, rfl, .push p v x element idle⟩
  | pop q =>
    obtain ⟨live, h⟩ := State.whenLive_next h
    obtain ⟨idle, h⟩ := State.whenRportIdle_next h
    cases h
    exact ⟨live, _, rfl, .pop q idle⟩
  | new => exact absurd rfl notNew

/-- `b'` has the cursors, Gray registers, copies, storage and marks of `b`: what no issue writes (spec/40_push.md R73,
spec/41_pop.md R83). -/
structure Block.IssueKeeps (b b' : Block c) : Prop where
  wbin : b'.wbin = b.wbin
  wgray : b'.wgray = b.wgray
  rbin : b'.rbin = b.rbin
  rgray : b'.rgray = b.rgray
  rsync : b'.rsync = b.rsync
  wsync : b'.wsync = b.wsync
  mem : b'.mem = b.mem
  marks : b'.sameMarks b

theorem Block.IssueMove.keeps {i : Instr} (move : b.IssueMove i b') : b.IssueKeeps b' := by
  cases move with
  | idleW | idleR | push | pop => constructor <;> simp [sameMarks]

/-- An issue leaves every producer port but that of a PUSH as it was (spec/41_pop.md R83). -/
theorem Block.IssueMove.producer_eq {i : Instr} (move : b.IssueMove i b') {p : Nat} (other : ∀ v, i ≠ .push p v) :
    b'.wport[p]? = b.wport[p]? ∧ b'.wresp[p]? = b.wresp[p]? := by
  cases move with
  | push own v x =>
    have ne : own ≠ p := by rintro rfl; exact other v rfl
    simp [ne]
  | idleW | idleR | pop => simp

/-- An issue leaves every consumer port but that of a POP as it was (spec/40_push.md R73). -/
theorem Block.IssueMove.consumer_eq {i : Instr} (move : b.IssueMove i b') {q : Nat} (other : i ≠ .pop q) :
    b'.rport[q]? = b.rport[q]? ∧ b'.rresp[q]? = b.rresp[q]? := by
  cases move with
  | pop own =>
    have ne : own ≠ q := by rintro rfl; exact other rfl
    simp [ne]
  | idleW | idleR | push => simp

end Issue

/-! ### What a producer port's step sees -/

section Locality

variable {c : Config} {b₁ b₂ b₁' : Block c} {p : Nat}

/-- What a trace line on producer port `p` does to the block: an issue, a refused word or a commit. -/
inductive Block.ProducerMove (b : Block c) (p : Nat) : Line c → Block c → Prop
  | idle (word : c.Command) (decoded : decode c (.w p) word = .ok (.idleW p)) (idle : b.wport[p]? = some .idle) :
      ProducerMove b p (.issue (.w p) word) (b.record (.issue (.w p) .idle))
  | push (word : c.Command) (v : Nat) (x : c.Element) (decoded : decode c (.w p) word = .ok (.push p v))
      (element : elementOf c v = some x) (idle : b.wport[p]? = some .idle) :
      ProducerMove b p (.issue (.w p) word) (b.issuePush p x)
  | illegal (word : c.Command) (e : DecodeError) (rejected : decode c (.w p) word = .error e)
      (known : (Port.w p).exists c = true) :
      ProducerMove b p (.issue (.w p) word) (b.refuse (.reservedCommand (.w p) word))
  | accept (v : c.Element) (held : b.wport[p]? = some (.pending v)) (room : b.fullW = false) :
      ProducerMove b p (.commit (.w p)) (b.acceptPush p v)
  | reject (v : c.Element) (held : b.wport[p]? = some (.pending v)) (full : b.fullW = true) :
      ProducerMove b p (.commit (.w p)) (b.rejectPush p)

/-- A word on a producer port selects IDLE_W or PUSH on that port, if anything (spec/30_encoding.md R57, R58). -/
theorem decode_w_eq_ok {word : c.Command} {i : Instr} (decoded : decode c (.w p) word = .ok i) :
    i = .idleW p ∨ ∃ v, i = .push p v := by
  obtain op | op | op | op := op_cases (opField word)
  · rw [decode_idle_w p op] at decoded
    exact .inl (Except.ok.inj decoded).symm
  · rw [decode_push_w p op] at decoded
    exact .inr ⟨_, (Except.ok.inj decoded).symm⟩
  · rw [decode_pop_w p op] at decoded
    cases decoded
  · rw [decode_reserved (.w p) op] at decoded
    cases decoded

/-- A line on a producer port that answers a next state makes one of these moves. -/
theorem runLine_producerMove {s t : State} {l : Line s.cfg}
    (own : l = .commit (.w p) ∨ ∃ word, l = .issue (.w p) word) (h : runLine s l = .next t) :
    s.Live ∧ ∃ b, t = s.withBlk b ∧ s.blk.ProducerMove p l b := by
  obtain rfl | ⟨word, rfl⟩ := own
  · obtain ⟨live, h⟩ := State.whenLive_next h
    split at h
    case h_1 => cases h
    case h_2 => cases h
    case h_3 v held =>
      cases h
      refine ⟨live, _, rfl, ?_⟩
      split_ifs with full
      · exact .reject v held full
      · exact .accept v held (by simpa using full)
  · cases decoded : decode s.cfg (.w p) word with
    | ok i =>
      rw [runLine_issue_of_ok decoded] at h
      obtain rfl | ⟨v, rfl⟩ := decode_w_eq_ok decoded
      · obtain ⟨live, b, rfl, move⟩ := exec_issueMove (i := .idleW p) nofun h
        cases move with
        | idleW _ idle => exact ⟨live, _, rfl, .idle word decoded idle⟩
      · obtain ⟨live, b, rfl, move⟩ := exec_issueMove (i := .push p v) nofun h
        cases move with
        | push _ _ x element idle => exact ⟨live, _, rfl, .push word v x decoded element idle⟩
    | error e =>
      rw [runLine_issue_of_error decoded] at h
      obtain ⟨live, h⟩ := State.whenLive_next h
      split_ifs at h with known
      cases h
      exact ⟨live, _, rfl, .illegal word e decoded known⟩

/-- On a live state each of these moves is the answer of its line. -/
theorem Block.ProducerMove.runLine_eq {s : State} (live : s.Live) {l : Line s.cfg} {b : Block s.cfg}
    (move : s.blk.ProducerMove p l b) : runLine s l = .next (s.withBlk b) := by
  cases move with
  | idle word decoded idle => exact (runLine_issue_of_ok decoded).trans (execIdleW_of_idle live idle)
  | push word v x decoded element idle => exact (runLine_issue_of_ok decoded).trans (execPush_of_idle live element idle)
  | illegal word e rejected known => exact (runLine_issue_of_error rejected).trans (issueIllegal_of_live live known word)
  | accept v held room => exact commitPush_of_room live held room
  | reject v held full => exact commitPush_of_full live held full

/-- A producer port's step leaves the read domain (spec/40_push.md R73). -/
theorem Block.ProducerMove.sameReadDomain {b b' : Block c} {l : Line c} (move : b.ProducerMove p l b') :
    b'.sameReadDomain b := by
  cases move with
  | idle | push | illegal | accept | reject => simp [Block.sameReadDomain]

/-- What a producer port's step from `b₁` to `b₁'` and its twin from `b₂` to `b₂'` leave alike: the write domain, the marks,
and every slot that was alike before (spec/40_push.md R74). -/
structure Block.WriteTwins (b₁ b₂ b₁' b₂' : Block c) : Prop where
  writeDomain : b₁'.sameWriteDomain b₂'
  marks : b₁'.sameMarks b₂'
  slots : ∀ i, b₁.mem.read i = b₂.mem.read i → b₁'.mem.read i = b₂'.mem.read i

/-- The same store to two storages leaves a slot alike that was alike. -/
theorem Memory.read_write_congr {m₁ m₂ : Memory c} {i : Nat} (alike : m₁.read i = m₂.read i) (j : Nat) (v : c.Element) :
    (m₁.write j v).read i = (m₂.write j v).read i := by
  by_cases same : i = j
  · rw [same, Memory.read_write_same, Memory.read_write_same]
  · rw [Memory.read_write_ne _ v same, Memory.read_write_ne _ v same, alike]

/-- A producer port's step from one of two blocks with the same write domain is a step of the other, to its twin. -/
theorem Block.ProducerMove.twin {l : Line c} (move : b₁.ProducerMove p l b₁') (writeDomain : b₁.sameWriteDomain b₂)
    (marks : b₁.sameMarks b₂) : ∃ b₂', b₂.ProducerMove p l b₂' ∧ b₁.WriteTwins b₂ b₁' b₂' := by
  obtain ⟨hwbin, hwgray, hrsync, hwport, hwresp⟩ := writeDomain
  obtain ⟨hfaults, hrefused⟩ := marks
  have hfull := fullW_congr hwbin.symm hrsync.symm
  cases move with
  | idle word decoded idle =>
    refine ⟨_, .idle word decoded (hwport ▸ idle), ?_, ?_, fun _ => id⟩
    · simp [sameWriteDomain, *]
    · simp [sameMarks, *]
  | push word v x decoded element idle =>
    refine ⟨_, .push word v x decoded element (hwport ▸ idle), ?_, ?_, fun _ => id⟩
    · simp [sameWriteDomain, *]
    · simp [sameMarks, *]
  | illegal word e rejected known =>
    refine ⟨_, .illegal word e rejected known, ?_, ?_, fun _ => id⟩
    · simp [sameWriteDomain, *]
    · simp [sameMarks, *]
  | accept v held room =>
    refine ⟨_, .accept v (hwport ▸ held) (hfull.trans room), ?_, ?_, fun i alike => ?_⟩
    · simp [sameWriteDomain, *]
    · simp [sameMarks, *]
    · rw [acceptPush_mem, acceptPush_mem, hwbin]
      exact Memory.read_write_congr alike _ v
  | reject v held full =>
    refine ⟨_, .reject v (hwport ▸ held) (hfull.trans full), ?_, ?_, fun _ => id⟩
    · simp [sameWriteDomain, *]
    · simp [sameMarks, *]

end Locality

/-! ### The commits of a pending push as steps -/

section Commits

variable {s : State} {p : Nat} {v : s.cfg.Element} {rest : List (Line s.cfg)}

theorem step_commit_w_of_room (live : s.Live) (line : s.trace = .commit (.w p) :: rest)
    (held : s.blk.wport[p]? = some (.pending v)) (room : s.blk.occW.toNat < s.cfg.N) :
    step s = .next { s with trace := rest, blk := s.blk.acceptPush p v } :=
  (step_of_trace line).trans
    (commitPush_of_room (State.live_mk live rest s.draws) held (s.blk.fullW_eq_false_iff.mpr room))

theorem step_commit_w_of_full (live : s.Live) (line : s.trace = .commit (.w p) :: rest)
    (held : s.blk.wport[p]? = some (.pending v)) (full : s.cfg.N ≤ s.blk.occW.toNat) :
    step s = .next { s with trace := rest, blk := s.blk.rejectPush p } :=
  (step_of_trace line).trans
    (commitPush_of_full (State.live_mk live rest s.draws) held (s.blk.fullW_eq_true_iff.mpr full))

/-- Two steps of the machine, one after the other. -/
theorem run_two {s₀ s₁ s₂ : State} (first : step s₀ = .next s₁) (second : step s₁ = .next s₂) :
    core.run 2 s₀ = .next s₂ := by
  simp only [Host.Core.run, show core.step s₀ = .next s₁ from first, show core.step s₁ = .next s₂ from second]

end Commits

/-- With two free places the slots of `wbin` and of the cursor after it are two (spec/10_state.md R35). -/
theorem slotOf_ne_succ {c : Config} (hW : c.A < c.W) (two : 2 ≤ c.N) (k : c.Cursor) : slotOf c k ≠ slotOf c (k + 1) := by
  simpa using slotOf_ne hW k (i := 0) (j := 1) Nat.one_pos (by omega)

/-! ### The obligations -/

/-- Settles O7: the port is Idle, so both checks pass and the issue is recorded. -/
theorem idleCompletes : Obligations.IdleCompletes :=
  ⟨fun _ _ live idle => execIdleW_of_idle live idle, fun _ _ live idle => execIdleR_of_idle live idle⟩

/-- Settles O8: the operand is an element and the port is Idle, so the port takes it. -/
theorem pushIssueCompletes : Obligations.PushIssueCompletes := fun _ _ _ live fits idle =>
  execPush_of_idle live (elementOf_of_lt fits) idle

/-- Settles O12: an issue writes the port and response of its own request and the history. -/
theorem issueFrame : Obligations.IssueFrame := by
  intro i s t notNew h
  obtain ⟨-, b, rfl, move⟩ := exec_issueMove notNew h
  have keeps := move.keeps
  exact ⟨b, rfl, keeps.wbin, keeps.wgray, keeps.rbin, keeps.rgray, keeps.rsync, keeps.wsync, fun i => by rw [keeps.mem],
    keeps.marks, Block.fullW_congr keeps.wbin keeps.rsync, Block.emptyR_congr keeps.rbin keeps.wsync,
    fun _ => move.producer_eq, fun _ => move.consumer_eq⟩

/-- Settles O20: the full test fails, so the commit stores in the slot of `wbin` and moves the write domain's view by one. -/
theorem pushCommitAccepted : Obligations.PushCommitAccepted := by
  intro s p v rest live line held room
  have view := Block.acceptPush_occW_toNat live.cursor_wide room p v
  refine ⟨s.blk.acceptPush p v, step_commit_w_of_room live line held room, rfl, ?_, fun i other => ?_, ?_, rfl⟩
  · rw [← slotOf_eq_mod]
    exact Memory.read_write_same ..
  · rw [← slotOf_eq_mod] at other
    exact Memory.read_write_ne _ v other
  · rw [Block.fullW_eq_true_iff, view]
    omega

/-- Settles O21: the full test holds, so the commit writes the port and its response alone. -/
theorem pushCommitRejectedWhenFull : Obligations.PushCommitRejectedWhenFull :=
  fun s p _ _ live line held full =>
    ⟨s.blk.rejectPush p, step_commit_w_of_full live line held full,
      (Block.fullW_congr (s.blk.rejectPush_wbin p) (s.blk.rejectPush_rsync p)).trans (s.blk.fullW_eq_true_iff.mpr full),
      Block.emptyR_congr (s.blk.rejectPush_rbin p) (s.blk.rejectPush_wsync p), rfl⟩

/-- Settles O47: the line of the step makes a move that the write domain decides, so it makes the same move in both blocks. -/
theorem pushStepsSeeWriteDomainOnly : Obligations.PushStepsSeeWriteDomainOnly := by
  intro c b₁ b₂ rest l n₁ n₂ t₁ p own writeDomain marks h
  obtain ⟨⟨valid, unfaulted, unrefused⟩, b₁', rfl, move⟩ :=
    runLine_producerMove (s := { cfg := c, blk := b₁, trace := rest, draws := n₁ }) own h
  obtain ⟨b₂', move₂, twins⟩ := move.twin writeDomain marks
  obtain ⟨faults, refused⟩ := marks
  have live : State.Live { cfg := c, blk := b₂, trace := rest, draws := n₂ } :=
    ⟨valid, faults.symm.trans unfaulted, refused.symm.trans unrefused⟩
  exact ⟨b₁', b₂', rfl, move₂.runLine_eq live, twins.writeDomain, twins.marks, move.sameReadDomain,
    move₂.sameReadDomain, twins.slots⟩

/-- Settles O49: the first commit leaves the other port pending and one place free, so the second is accepted too. -/
theorem eitherProducerMayCommitFirst : Obligations.EitherProducerMayCommitFirst := by
  intro s p q v u rest live other heldP heldQ room line
  have hW := live.cursor_wide
  have view := Block.acceptPush_occW_toNat (b := s.blk) hW (by omega) p v
  have first := step_commit_w_of_room live line heldP (by omega)
  have second := step_commit_w_of_room (s := { s with trace := .commit (.w q) :: rest, blk := s.blk.acceptPush p v })
    live rfl ((s.blk.setWport_ne other .idle).trans heldQ) (view.trans_lt (Nat.lt_of_succ_le (Nat.lt_of_succ_le room)))
  have slots := slotOf_ne_succ hW (by omega) s.blk.wbin
  refine ⟨_, run_two first second, _, rest, s.draws, rfl, ?_, ?_, ?_, ?_, ?_, ?_⟩
  · simp
  · exact (add_assoc ..).trans (congrArg _ (BitVec.ofNat_add 1 1).symm)
  · exact (Memory.read_write_ne _ u slots).trans (Memory.read_write_same ..)
  · exact Memory.read_write_same ..
  · simp [other.symm, Block.wport_known heldP]
  · simp [Block.wport_known heldQ]

end Sys2Proof.Machine
end

section
/-! PROOFS. Scope: the steps of the read port: what a POP issue and a POP commit answer on a live state, that a consumer
port's step sees and writes the read domain alone, and that no pending pop waits for ever (spec/41_pop.md R76 to R80, R82 to
R84). -/

namespace Sys2Proof.Machine

/-! ### What a step answers on a live state -/

section Answers

variable {s : State} {q : Nat}

/-- POP on an Idle port (spec/41_pop.md R76). -/
theorem execPop_of_idle (live : s.Live) (idle : s.blk.rport[q]? = some .idle) :
    execPop q s = .next (s.withBlk (s.blk.issuePop q)) := by
  rw [execPop, State.whenLive_of_live live, State.whenRportIdle_of_idle idle]

/-- The commit of a pending POP where the empty test holds (spec/41_pop.md R79). -/
theorem commitPop_of_empty (live : s.Live) (pending : s.blk.rport[q]? = some .pending) (empty : s.blk.emptyR = true) :
    commitPop q s = .next (s.withBlk (s.blk.rejectPop q (Config.freeElement s.cfg.DW s.draws))).drawn := by
  rw [commitPop, State.whenLive_of_live live]
  simp only [pending, empty, if_true]

/-- The commit of a pending POP where the empty test fails and the slot of `rbin` is written (spec/41_pop.md R78). -/
theorem commitPop_of_stored (live : s.Live) (pending : s.blk.rport[q]? = some .pending) (stored : s.blk.emptyR = false)
    {v : s.cfg.Element} (read : s.blk.mem.read (slotOf s.cfg s.blk.rbin) = some v) :
    commitPop q s = .next (s.withBlk (s.blk.acceptPop q v)) := by
  rw [commitPop, State.whenLive_of_live live]
  simp only [pending, stored, read, Bool.false_eq_true, if_false]

/-- The commit of a pending POP where the empty test fails and the slot of `rbin` is unwritten (spec/41_pop.md R80). -/
theorem commitPop_of_unwritten (live : s.Live) (pending : s.blk.rport[q]? = some .pending) (stored : s.blk.emptyR = false)
    (unwritten : s.blk.mem.read (slotOf s.cfg s.blk.rbin) = none) :
    commitPop q s = s.raise (.unwrittenSlotRead (.r q) s.blk.rbin) := by
  rw [commitPop, State.whenLive_of_live live]
  simp only [pending, stored, unwritten, Bool.false_eq_true, if_false]

end Answers

/-- The first fault mark of a block (spec/60_exceptions.md R98). -/
theorem Block.raise_of_unmarked {c : Config} {b : Block c} (unmarked : b.faults = []) (f : FaultMark c) :
    b.raise f = { b with faults := [f], history := b.history ++ [.fault f] } := by
  simp [raise, addFault, record, unmarked]

/-! ### The empty test, and the read domain's view after a pop -/

section Views

variable {c : Config} (b : Block c)

theorem Block.emptyR_eq_true_iff : b.emptyR = true ↔ b.occR = 0 := by simp [emptyR]

theorem Block.emptyR_eq_false_iff : b.emptyR = false ↔ b.occR ≠ 0 := by simp [emptyR]

/-- An accepted pop makes the read domain's view one less. -/
@[simp] theorem Block.acceptPop_occR (q : Nat) (v : c.Element) : (b.acceptPop q v).occR = b.occR - 1 :=
  sub_add_eq_sub_sub ..

end Views

/-! ### What a consumer port's step sees -/

section Locality

variable {c : Config} {b b' b₁ b₂ b₁' : Block c} {q n n' : Nat}

/-- What a trace line on consumer port `q` does to the block and to the free-value counter `n`: an issue, a refused word or
a commit, of which a rejected one draws its data. -/
inductive Block.ConsumerMove (b : Block c) (q n : Nat) : Line c → Block c → Nat → Prop
  | idle (word : c.Command) (decoded : decode c (.r q) word = .ok (.idleR q)) (idle : b.rport[q]? = some .idle) :
      ConsumerMove b q n (.issue (.r q) word) (b.record (.issue (.r q) .idle)) n
  | pop (word : c.Command) (decoded : decode c (.r q) word = .ok (.pop q)) (idle : b.rport[q]? = some .idle) :
      ConsumerMove b q n (.issue (.r q) word) (b.issuePop q) n
  | illegal (word : c.Command) (e : DecodeError) (rejected : decode c (.r q) word = .error e)
      (known : (Port.r q).exists c = true) :
      ConsumerMove b q n (.issue (.r q) word) (b.refuse (.reservedCommand (.r q) word)) n
  | accept (v : c.Element) (pending : b.rport[q]? = some .pending) (stored : b.emptyR = false)
      (read : b.mem.read (slotOf c b.rbin) = some v) :
      ConsumerMove b q n (.commit (.r q)) (b.acceptPop q v) n
  | reject (pending : b.rport[q]? = some .pending) (empty : b.emptyR = true) :
      ConsumerMove b q n (.commit (.r q)) (b.rejectPop q (Config.freeElement c.DW n)) (n + 1)
  | unwritten (pending : b.rport[q]? = some .pending) (stored : b.emptyR = false)
      (unwritten : b.mem.read (slotOf c b.rbin) = none) :
      ConsumerMove b q n (.commit (.r q)) (b.raise (.unwrittenSlotRead (.r q) b.rbin)) n

/-- A word on a consumer port selects IDLE_R or POP on that port, if anything (spec/30_encoding.md R57, R58). -/
theorem decode_r_eq_ok {word : c.Command} {i : Instr} (decoded : decode c (.r q) word = .ok i) :
    i = .idleR q ∨ i = .pop q := by
  obtain op | op | op | op := op_cases (opField word)
  · rw [decode_idle_r q op] at decoded
    exact .inl (Except.ok.inj decoded).symm
  · rw [decode_push_r q op] at decoded
    cases decoded
  · rw [decode_pop_r q op] at decoded
    exact .inr (Except.ok.inj decoded).symm
  · rw [decode_reserved (.r q) op] at decoded
    cases decoded

/-- A line on a consumer port that answers a next state makes one of these moves. -/
theorem runLine_consumerMove {s t : State} {l : Line s.cfg}
    (own : l = .commit (.r q) ∨ ∃ word, l = .issue (.r q) word) (h : runLine s l = .next t) :
    s.Live ∧ ∃ b n, t = { s with blk := b, draws := n } ∧ s.blk.ConsumerMove q s.draws l b n := by
  obtain rfl | ⟨word, rfl⟩ := own
  · obtain ⟨live, h⟩ := State.whenLive_next h
    split at h
    case h_1 => cases h
    case h_2 => cases h
    case h_3 pending =>
      split_ifs at h with empty
      · cases h
        exact ⟨live, _, _, rfl, .reject pending empty⟩
      · have stored : s.blk.emptyR = false := by simpa using empty
        split at h
        case h_1 v read =>
          cases h
          exact ⟨live, _, _, rfl, .accept v pending stored read⟩
        case h_2 unwritten =>
          cases h
          exact ⟨live, _, _, rfl, .unwritten pending stored unwritten⟩
  · cases decoded : decode s.cfg (.r q) word with
    | ok i =>
      rw [runLine_issue_of_ok decoded] at h
      obtain rfl | rfl := decode_r_eq_ok decoded
      · obtain ⟨live, b, rfl, move⟩ := exec_issueMove (i := .idleR q) nofun h
        cases move with
        | idleR _ idle => exact ⟨live, _, _, rfl, .idle word decoded idle⟩
      · obtain ⟨live, b, rfl, move⟩ := exec_issueMove (i := .pop q) nofun h
        cases move with
        | pop _ idle => exact ⟨live, _, _, rfl, .pop word decoded idle⟩
    | error e =>
      rw [runLine_issue_of_error decoded] at h
      obtain ⟨live, h⟩ := State.whenLive_next h
      split_ifs at h with known
      cases h
      exact ⟨live, _, _, rfl, .illegal word e decoded known⟩

/-- On a live state each of these moves is the answer of its line. -/
theorem Block.ConsumerMove.runLine_eq {s : State} (live : s.Live) {l : Line s.cfg} {b : Block s.cfg}
    (move : s.blk.ConsumerMove q s.draws l b n) : runLine s l = .next { s with blk := b, draws := n } := by
  cases move with
  | idle word decoded idle => exact (runLine_issue_of_ok decoded).trans (execIdleR_of_idle live idle)
  | pop word decoded idle => exact (runLine_issue_of_ok decoded).trans (execPop_of_idle live idle)
  | illegal word e rejected known => exact (runLine_issue_of_error rejected).trans (issueIllegal_of_live live known word)
  | accept v pending stored read => exact commitPop_of_stored live pending stored read
  | reject pending empty => exact commitPop_of_empty live pending empty
  | unwritten pending stored unwritten => exact commitPop_of_unwritten live pending stored unwritten

/-- A consumer port's step leaves the write domain (spec/41_pop.md R83). -/
theorem Block.ConsumerMove.sameWriteDomain {l : Line c} (move : b.ConsumerMove q n l b' n') : b'.sameWriteDomain b := by
  cases move with
  | idle | pop | illegal | accept | reject | unwritten => simp [Block.sameWriteDomain]

/-- A consumer port's step writes no slot (spec/41_pop.md R83). -/
theorem Block.ConsumerMove.sameSlots {l : Line c} (move : b.ConsumerMove q n l b' n') : b'.sameSlots b := by
  cases move with
  | idle | pop | illegal | accept | reject | unwritten => exact fun _ => rfl

/-- A consumer port's step from one of two blocks with the same read domain and the same slot of `rbin` is a step of the
other, with the same draw, to the same read domain and marks (spec/41_pop.md R84). -/
theorem Block.ConsumerMove.twin {l : Line c} (move : b₁.ConsumerMove q n l b₁' n') (readDomain : b₁.sameReadDomain b₂)
    (marks : b₁.sameMarks b₂) (slot : b₁.mem.read (slotOf c b₁.rbin) = b₂.mem.read (slotOf c b₁.rbin)) :
    ∃ b₂', b₂.ConsumerMove q n l b₂' n' ∧ b₁'.sameReadDomain b₂' ∧ b₁'.sameMarks b₂' := by
  obtain ⟨hrbin, hrgray, hwsync, hrport, hrresp⟩ := readDomain
  obtain ⟨hfaults, hrefused⟩ := marks
  have hempty := emptyR_congr hrbin.symm hwsync.symm
  have hslot : b₂.mem.read (slotOf c b₂.rbin) = b₁.mem.read (slotOf c b₁.rbin) := by rw [slot, hrbin]
  cases move with
  | idle word decoded idle =>
    exact ⟨_, .idle word decoded (hrport ▸ idle), by simp [sameReadDomain, *], by simp [sameMarks, *]⟩
  | pop word decoded idle =>
    exact ⟨_, .pop word decoded (hrport ▸ idle), by simp [sameReadDomain, *], by simp [sameMarks, *]⟩
  | illegal word e rejected known =>
    exact ⟨_, .illegal word e rejected known, by simp [sameReadDomain, *], by simp [sameMarks, *]⟩
  | accept v pending stored read =>
    exact ⟨_, .accept v (hrport ▸ pending) (hempty.trans stored) (hslot.trans read), by simp [sameReadDomain, *],
      by simp [sameMarks, *]⟩
  | reject pending empty =>
    exact ⟨_, .reject (hrport ▸ pending) (hempty.trans empty), by simp [sameReadDomain, *], by simp [sameMarks, *]⟩
  | unwritten pending stored unwritten =>
    exact ⟨_, .unwritten (hrport ▸ pending) (hempty.trans stored) (hslot.trans unwritten),
      by simp [sameReadDomain, *], by simp [sameMarks, *]⟩

end Locality

/-! ### The answer to a pending pop -/

/-- A POP request that a transition takes down is answered: the response register holds a response (spec/41_pop.md R78,
R79). -/
theorem Transition.rresp_of_answered {c : Config} {b b' : Block c} (move : Transition b b') {q : Nat}
    (up : b.isPending (.r q) = true) (down : b'.isPending (.r q) = false) :
    ∃ response, b'.rresp[q]? = some (some response) := by
  obtain ⟨e, history, ports⟩ := move.portMove
  have done : b'.popDone q = true :=
    (Block.justCommitted_of_history history).mpr ((ports.falls_iff _).mp ⟨up, down⟩)
  obtain ⟨count, -, given, -⟩ := move.pop_answered done
  rw [Block.popCount, if_pos done] at given
  obtain ⟨response, held, -⟩ := Option.map_eq_some_iff.mp given
  exact ⟨response, Option.join_eq_some_iff.mp held⟩

/-- The number of POP commits never falls (spec/10_state.md R30). -/
theorem step_popCommits_le {s t : State} (h : step s = .next t) : s.popCommits ≤ t.popCommits := by
  obtain ⟨-, b', n, rfl, move⟩ := step_transition h
  obtain ⟨e, history⟩ := move.event
  simp only [State.popCommits, history, List.countP_append]
  exact Nat.le_add_right ..

/-- A step that takes a POP request down answers it. -/
theorem step_rresp_of_answered {s t : State} (h : step s = .next t) {q : Nat} (up : s.blk.isPending (.r q) = true)
    (down : t.blk.isPending (.r q) = false) : ∃ response, t.blk.rresp[q]? = some (some response) := by
  obtain ⟨-, b', n, rfl, move⟩ := step_transition h
  exact move.rresp_of_answered up down

/-- A request that is up at one time and down at a later one goes down between two states that follow each other. -/
theorem exists_falling_step {run : Nat → State} {port : Port} {n m : Nat} (later : n ≤ m)
    (up : (run n).blk.isPending port = true) (down : (run m).blk.isPending port = false) :
    ∃ k, n ≤ k ∧ k < m ∧ (run k).blk.isPending port = true ∧ (run (k + 1)).blk.isPending port = false := by
  induction m, later using Nat.le_induction with
  | base => exact absurd up (by simp [down])
  | succ m later ih =>
    cases still : (run m).blk.isPending port with
    | true => exact ⟨m, later, Nat.lt_succ_self m, still, down⟩
    | false =>
      obtain ⟨k, after, before, falls⟩ := ih still
      exact ⟨k, after, Nat.lt_succ_of_lt before, falls⟩

/-! ### The commits of a pending pop as steps -/

section Commits

variable {s : State} {q : Nat} {rest : List (Line s.cfg)}

theorem step_commit_r_of_stored (live : s.Live) (line : s.trace = .commit (.r q) :: rest)
    (pending : s.blk.rport[q]? = some .pending) (stored : s.blk.occR ≠ 0) {v : s.cfg.Element}
    (read : s.blk.mem.read (slotOf s.cfg s.blk.rbin) = some v) :
    step s = .next { s with trace := rest, blk := s.blk.acceptPop q v } :=
  (step_of_trace line).trans
    (commitPop_of_stored (State.live_mk live rest s.draws) pending (s.blk.emptyR_eq_false_iff.mpr stored) read)

theorem step_commit_r_of_empty (live : s.Live) (line : s.trace = .commit (.r q) :: rest)
    (pending : s.blk.rport[q]? = some .pending) (empty : s.blk.occR = 0) :
    step s = .next { s with
      trace := rest, draws := s.draws + 1, blk := s.blk.rejectPop q (Config.freeElement s.cfg.DW s.draws) } :=
  (step_of_trace line).trans
    (commitPop_of_empty (State.live_mk live rest s.draws) pending (s.blk.emptyR_eq_true_iff.mpr empty))

theorem step_commit_r_of_unwritten (live : s.Live) (line : s.trace = .commit (.r q) :: rest)
    (pending : s.blk.rport[q]? = some .pending) (stored : s.blk.occR ≠ 0)
    (unwritten : s.blk.mem.read (slotOf s.cfg s.blk.rbin) = none) :
    step s = .next { s with trace := rest, blk := s.blk.raise (.unwrittenSlotRead (.r q) s.blk.rbin) } :=
  (step_of_trace line).trans
    (commitPop_of_unwritten (State.live_mk live rest s.draws) pending (s.blk.emptyR_eq_false_iff.mpr stored) unwritten)

end Commits

/-! ### The obligations -/

/-- Settles O48: the line of the step makes a move that the read domain and the slot of `rbin` decide, so it makes the same
move in both blocks, with the same draw. -/
theorem popStepsSeeReadDomainOnly : Obligations.PopStepsSeeReadDomainOnly := by
  intro c b₁ b₂ rest l n t₁ q own readDomain marks slot h
  obtain ⟨⟨valid, unfaulted, unrefused⟩, b₁', n', rfl, move⟩ :=
    runLine_consumerMove (s := { cfg := c, blk := b₁, trace := rest, draws := n }) own h
  obtain ⟨b₂', move₂, readDomain', marks'⟩ := move.twin readDomain marks slot
  obtain ⟨faults, refused⟩ := marks
  have live : State.Live { cfg := c, blk := b₂, trace := rest, draws := n } :=
    ⟨valid, faults.symm.trans unfaulted, refused.symm.trans unrefused⟩
  exact ⟨b₁', b₂', n', rfl, move₂.runLine_eq live, readDomain', marks', move.sameWriteDomain, move₂.sameWriteDomain,
    move.sameSlots, move₂.sameSlots⟩

/-- Settles O54: the arbiter takes the request down within the bound, the step that does so answers it, and no POP commit
leaves the history. -/
theorem pendingPopIsAnswered : Obligations.PendingPopIsAnswered := by
  intro run bound n q hrun fair up
  obtain ⟨m, later, down, within⟩ := fair n q up
  obtain ⟨k, after, before, still, fallen⟩ := exists_falling_step later.le up down
  obtain ⟨response, answered⟩ := step_rresp_of_answered (hrun k) still fallen
  have grows : Monotone fun i => (run i).popCommits := monotone_nat_of_le_succ fun i => step_popCommits_le (hrun i)
  exact ⟨k + 1, response, Nat.lt_succ_of_le after, answered, (grows before).trans within⟩

/-- Settles O9: the port is Idle, so it takes the request. -/
theorem popIssueCompletes : Obligations.PopIssueCompletes := fun _ _ live idle => execPop_of_idle live idle

/-- Settles O22: the empty test fails and the slot of `rbin` holds the element, so the commit answers with it and takes one
from the read domain's view. -/
theorem popCommitAccepted : Obligations.PopCommitAccepted := by
  intro s q v rest live line pending stored read
  rw [← slotOf_eq_mod] at read
  refine ⟨s.blk.acceptPop q v, step_commit_r_of_stored live line pending stored read, rfl, ?_, rfl⟩
  rw [Block.emptyR_eq_true_iff, Block.acceptPop_occR]
  exact sub_eq_zero

/-- Settles O23: the empty test holds, so the commit writes the port and its response alone, its data the next draw. -/
theorem popCommitRejectedWhenEmpty : Obligations.PopCommitRejectedWhenEmpty :=
  fun s q _ live line pending empty =>
    ⟨_, _, _, step_commit_r_of_empty live line pending empty,
      (Block.emptyR_congr (s.blk.rejectPop_rbin q _) (s.blk.rejectPop_wsync q _)).trans (s.blk.emptyR_eq_true_iff.mpr empty),
      rfl, rfl⟩

/-- Settles O24: the empty test fails and the slot of `rbin` is unwritten, so the commit raises the first fault mark. -/
theorem popCommitOnUnwrittenSlotFaults : Obligations.PopCommitOnUnwrittenSlotFaults := by
  intro s q rest live line pending stored unwritten
  rw [← slotOf_eq_mod] at unwritten
  have ⟨_, unmarked, _⟩ := live
  rw [step_commit_r_of_unwritten live line pending stored unwritten, Block.raise_of_unmarked unmarked]

end Sys2Proof.Machine
end

section
/-! PROOFS. Scope: the Gray code bit by bit, that coding and decoding undo each other, and that the codes of successive values
differ in one bit (spec/42_cdc_sync.md R85 to R87). -/

namespace Sys2Proof.Machine

section GrayCode

variable {w : Nat}

/-- A bit of a Gray code is the bit of the value and the one above it, added (spec/42_cdc_sync.md R85). -/
theorem getLsbD_gray (b : BitVec w) (i : Nat) : (gray b).getLsbD i = (b.getLsbD i ^^ b.getLsbD (i + 1)) := by
  rw [gray, BitVec.getLsbD_xor, BitVec.getLsbD_ushiftRight, Nat.add_comm]

/-- `gray(ungray(g)) == g`: on finitely many words a one-sided inverse is two-sided (spec/42_cdc_sync.md R86). -/
@[simp] theorem gray_ungray (g : BitVec w) : gray (ungray g) = g :=
  have decodes : Function.LeftInverse ungray (gray (w := w)) := ungray_gray
  decodes.rightInverse_of_surjective (Finite.surjective_of_injective decodes.injective) g

/-- The decoded value from its top bit downwards (spec/42_cdc_sync.md R86). -/
theorem getLsbD_ungray (g : BitVec w) (i : Nat) :
    (ungray g).getLsbD i = ((ungray g).getLsbD (i + 1) ^^ g.getLsbD i) := by
  have coded : g.getLsbD i = ((ungray g).getLsbD i ^^ (ungray g).getLsbD (i + 1)) := by rw [← getLsbD_gray, gray_ungray]
  rw [coded, Bool.xor_left_comm, Bool.xor_self, Bool.xor_false]

/-- The recursion of the model as the sum over a range. -/
theorem xorShifts_eq_foldl (g : BitVec w) (n : Nat) :
    xorShifts g n = (List.range n).foldl (fun x i => x ^^^ (g >>> i)) 0 := by
  induction n with
  | zero => rfl
  | succ n ih => rw [xorShifts, ih, List.range_succ, List.foldl_append, List.foldl_cons, List.foldl_nil]

theorem gray_xor (x y : BitVec w) : gray (x ^^^ y) = gray x ^^^ gray y := by
  simp only [gray, BitVec.ushiftRight_xor_distrib]
  ac_rfl

/-- The Gray code of the word whose ones are the bits `0 .. i` is bit `i` alone. -/
theorem gray_of_low_ones {x : BitVec w} {i : Nat} (hi : i < w) (ones : ∀ j, x.getLsbD j = decide (j ≤ i)) :
    gray x = BitVec.twoPow w i := by
  refine BitVec.eq_of_getLsbD_eq fun j _ => ?_
  rw [getLsbD_gray, ones, ones, BitVec.getLsbD_twoPow, Bool.eq_iff_iff]
  simp only [Bool.xor_iff_ne, ne_eq, decide_eq_decide, Bool.and_eq_true, decide_eq_true_eq]
  omega

/-- Adding 1 changes a bit exactly when every bit below it is 1. -/
theorem getLsbD_xor_add_one (b : BitVec w) {j : Nat} (hj : j < w) :
    (b ^^^ (b + 1)).getLsbD j = decide (∀ k < j, b.getLsbD k = true) := by
  have carried : (b ^^^ (b + 1)).getLsbD j = ((1#w).getLsbD j ^^ BitVec.carry j b 1#w false) := by
    rw [BitVec.getLsbD_xor, BitVec.ofNat_eq_ofNat, BitVec.getLsbD_add hj, ← Bool.xor_assoc, Bool.xor_self, Bool.false_xor]
  rw [carried]
  cases j with
  | zero => simp [hj]
  | succ j => simp [BitVec.carry_succ_one j b (Nat.zero_lt_of_lt hj)]

/-- The low ones of a word, as far as bit `n`, end at some bit. -/
theorem exists_low_ones (b : BitVec w) (n : Nat) :
    ∃ i ≤ n, ∀ j ≤ n, (∀ k < j, b.getLsbD k = true) ↔ j ≤ i := by
  induction n with
  | zero => exact ⟨0, Nat.le_refl 0, fun j hj => by simp [Nat.le_zero.mp hj]⟩
  | succ n ih =>
    by_cases all : ∀ k < n + 1, b.getLsbD k = true
    · exact ⟨n + 1, Nat.le_refl _, fun j hj => iff_of_true (fun k hk => all k (hk.trans_le hj)) hj⟩
    · obtain ⟨i, hi, ones⟩ := ih
      refine ⟨i, Nat.le_succ_of_le hi, fun j hj => ?_⟩
      rcases Nat.le_or_eq_of_le_succ hj with below | rfl
      · exact ones j below
      · exact iff_of_false all (Nat.not_le_of_lt (Nat.lt_succ_of_le hi))

/-- The bits that adding 1 changes are the bits up to some bit of the word, the wrap included (spec/42_cdc_sync.md R87). -/
theorem exists_low_ones_xor_add_one (b : BitVec w) (hw : 1 ≤ w) :
    ∃ i < w, ∀ j, (b ^^^ (b + 1)).getLsbD j = decide (j ≤ i) := by
  obtain ⟨n, rfl⟩ := Nat.exists_eq_add_of_le' hw
  obtain ⟨i, hi, ones⟩ := exists_low_ones b n
  refine ⟨i, Nat.lt_succ_of_le hi, fun j => ?_⟩
  rcases Nat.lt_or_ge n j with outside | inside
  · rw [BitVec.getLsbD_of_ge _ j outside, eq_comm, decide_eq_false_iff_not]
    omega
  · rw [getLsbD_xor_add_one b (Nat.lt_succ_of_le inside), decide_eq_decide]
    exact ones j inside

end GrayCode

/-- Settles O26: above the top bit there is no bit to add. -/
theorem grayBits : Obligations.GrayBits := by
  refine fun w b => ⟨rfl, fun i => ?_⟩
  rw [getLsbD_gray]
  split_ifs with top
  · rw [BitVec.getLsbD_of_ge b (i + 1) top.ge, Bool.xor_false]
  · exact Bool.xor_comm ..

/-- Settles O27: the bits of `ungray g` are read off `gray (ungray g) = g`; above the top bit there is no bit to add. -/
theorem ungrayInvertsGray : Obligations.UngrayInvertsGray := by
  refine fun w b g => ⟨ungray_gray b, gray_ungray g, xorShifts_eq_foldl g w, fun i => ?_⟩
  rw [getLsbD_ungray]
  split_ifs with top
  · rw [BitVec.getLsbD_of_ge _ (i + 1) top.ge, Bool.false_xor]
  · rfl

/-- Settles O28: coding is linear, and adding 1 changes the low bits up to some bit, whose code is that bit alone. -/
theorem graySuccessorDiffersInOneBit : Obligations.GraySuccessorDiffersInOneBit := by
  refine fun w b hw => ⟨?_, gray_of_low_ones (by omega) fun j => ?_, gray_zero⟩
  · obtain ⟨i, hi, ones⟩ := exists_low_ones_xor_add_one b hw
    exact ⟨i, hi, by rw [← gray_xor, gray_of_low_ones hi ones]⟩
  · rw [BitVec.getLsbD_allOnes, decide_eq_decide]
    omega

end Sys2Proof.Machine
end

section
/-! PROOFS. Scope: the synchronizers: what a draw does to the views and flags, when a state is settled, that a copy once up to
date stays so while its source rests, and that an edge of the S-stage chain is such a step (spec/42_cdc_sync.md R89 to R94). -/

namespace Sys2Proof.Machine

/-! ### A copy and its source -/

section Copy

variable {w : Nat} {source g g' : BitVec w}

/-- A copy is up to date exactly when its lag is 0. -/
theorem eq_gray_iff : g = gray source ↔ source - ungray g = 0 := by
  rw [sub_eq_zero]
  exact ⟨fun h => by rw [h, ungray_gray], fun h => by rw [h, gray_ungray]⟩

/-- A copy moved on by its whole lag is up to date. -/
theorem gray_ungray_add_lag : gray (ungray g + BitVec.ofNat w (source - ungray g).toNat) = gray source := by
  rw [BitVec.ofNat_toNat, BitVec.setWidth_eq, add_sub_cancel]

/-- A copy no further behind its source than another is that other, moved on by the difference of their lags. -/
theorem eq_gray_ungray_add (closer : (source - ungray g').toNat ≤ (source - ungray g).toNat) :
    g' = gray (ungray g + BitVec.ofNat w ((source - ungray g).toNat - (source - ungray g').toNat)) := by
  have lags : BitVec.ofNat w ((source - ungray g).toNat - (source - ungray g').toNat) = ungray g' - ungray g := by
    rw [← BitVec.ofNat_sub_ofNat_of_le _ _ (BitVec.isLt _) closer, BitVec.ofNat_toNat, BitVec.ofNat_toNat,
      BitVec.setWidth_eq, BitVec.setWidth_eq, sub_sub_sub_cancel_left]
  rw [lags, add_sub_cancel, gray_ungray]

end Copy

/-! ### The views and the flags under the cursor invariant -/

section Views

variable {c : Config} {b b' : Block c}

/-- `full_w` says that the occupancy and the lag of the write domain's copy fill the block (spec/10_state.md R27, R33). -/
theorem Block.ViewsInv.fullW_eq_true_iff (hW : c.A < c.W) (h : b.ViewsInv) :
    b.fullW = true ↔ b.occ.toNat + b.lagR.toNat = c.N := by
  rw [Block.fullW_eq_true_iff, h.occW_toNat hW]
  exact h.room.ge_iff_eq

/-- `empty_r` says that the read domain's copy has not seen an element (spec/10_state.md R28, R33). -/
theorem Block.ViewsInv.emptyR_eq_true_iff (h : b.ViewsInv) : b.emptyR = true ↔ b.occ.toNat = b.lagW.toNat := by
  have := h.lagW_le_occ
  rw [Block.emptyR_eq_true_iff, ← BitVec.toNat_inj, h.occR_toNat, BitVec.ofNat_eq_ofNat, BitVec.toNat_zero]
  omega

theorem Block.ViewsInv.wsync_eq_wgray_iff (h : b.ViewsInv) : b.wsync = b.wgray ↔ b.lagW = 0 := by
  rw [h.wgray_eq]
  exact eq_gray_iff

theorem Block.ViewsInv.rsync_eq_rgray_iff (h : b.ViewsInv) : b.rsync = b.rgray ↔ b.lagR = 0 := by
  rw [h.rgray_eq]
  exact eq_gray_iff

/-- A state is settled exactly when both lags are 0 (spec/42_cdc_sync.md R92). -/
theorem Block.ViewsInv.settled_iff (h : b.ViewsInv) : b.settled = true ↔ b.lagW = 0 ∧ b.lagR = 0 := by
  rw [Block.settled, Bool.and_eq_true, decide_eq_true_eq, decide_eq_true_eq, h.wsync_eq_wgray_iff, h.rsync_eq_rgray_iff]

/-- A draw of SYNC_W2R leaves `empty_r` up exactly when it does not move the copy (spec/42_cdc_sync.md R90). -/
theorem Block.ViewsInv.moveWsync_emptyR (h : b.ViewsInv) {k : Nat} (window : k ≤ b.lagW.toNat) :
    (b.moveWsync k).emptyR = (b.emptyR && decide (k = 0)) := by
  have := h.lagW_le_occ
  rw [Bool.eq_iff_iff, Bool.and_eq_true, decide_eq_true_eq, (h.moveWsync window).emptyR_eq_true_iff, h.emptyR_eq_true_iff,
    b.moveWsync_lagW_toNat window, b.moveWsync_occ]
  omega

/-- A draw of SYNC_R2W leaves `full_w` up exactly when it does not move the copy (spec/42_cdc_sync.md R91). -/
theorem Block.ViewsInv.moveRsync_fullW (hW : c.A < c.W) (h : b.ViewsInv) {k : Nat} (window : k ≤ b.lagR.toNat) :
    (b.moveRsync k).fullW = (b.fullW && decide (k = 0)) := by
  have := h.room
  rw [Bool.eq_iff_iff, Bool.and_eq_true, decide_eq_true_eq, (h.moveRsync window).fullW_eq_true_iff hW, h.fullW_eq_true_iff hW,
    b.moveRsync_lagR_toNat window, b.moveRsync_occ]
  omega

end Views

/-! ### A copy whose source rests -/

section Progress

variable {c : Config} {b b' : Block c}

/-- While the write cursor rests, the lag of its copy does not grow. -/
theorem QueueMove.lagW_le (move : QueueMove b b') (still : b'.wbin = b.wbin) : b'.lagW.toNat ≤ b.lagW.toNat := by
  have of_kept (kept : b'.wsync = b.wsync) : b'.lagW.toNat ≤ b.lagW.toNat := by rw [Block.lagW, still, kept, Block.lagW]
  cases move with
  | push | pop | moveRsync => exact of_kept rfl
  | moveWsync k window => exact (b.moveWsync_lagW_toNat window).trans_le (Nat.sub_le ..)
  | new => simp [Block.lagW]
  | rest e rests => exact of_kept rests.wsync

/-- While the read cursor rests, the lag of its copy does not grow. -/
theorem QueueMove.lagR_le (move : QueueMove b b') (still : b'.rbin = b.rbin) : b'.lagR.toNat ≤ b.lagR.toNat := by
  have of_kept (kept : b'.rsync = b.rsync) : b'.lagR.toNat ≤ b.lagR.toNat := by rw [Block.lagR, still, kept, Block.lagR]
  cases move with
  | push | pop | moveWsync => exact of_kept rfl
  | moveRsync k window => exact (b.moveRsync_lagR_toNat window).trans_le (Nat.sub_le ..)
  | new => simp [Block.lagR]
  | rest e rests => exact of_kept rests.rsync

/-- The cursor invariant holds in every state of a run that starts with it. -/
theorem IsRun.viewsInv {run : Nat → State} (hrun : IsRun run) (start : (run 0).blk.ViewsInv) (n : Nat) :
    (run n).blk.ViewsInv := by
  induction n with
  | zero => exact start
  | succ n ih => exact stepKeepsViewsInv _ _ ih (hrun n)

/-- A step that leaves the write cursor leaves a copy that is up to date so. -/
theorem step_keeps_wsync_eq_wgray {s t : State} (h : step s = .next t) (hs : s.blk.ViewsInv)
    (still : t.blk.wbin.toNat = s.blk.wbin.toNat) (seen : s.blk.wsync = s.blk.wgray) : t.blk.wsync = t.blk.wgray := by
  have ht := stepKeepsViewsInv s t hs h
  obtain ⟨-, b', n, rfl, move⟩ := step_transition h
  have lag := move.queueMove.lagW_le (BitVec.eq_of_toNat_eq still)
  rw [hs.wsync_eq_wgray_iff.mp seen] at lag
  exact ht.wsync_eq_wgray_iff.mpr (BitVec.eq_of_toNat_eq (Nat.le_antisymm lag (by simp)))

/-- A step that leaves the read cursor leaves a copy that is up to date so. -/
theorem step_keeps_rsync_eq_rgray {s t : State} (h : step s = .next t) (hs : s.blk.ViewsInv)
    (still : t.blk.rbin.toNat = s.blk.rbin.toNat) (seen : s.blk.rsync = s.blk.rgray) : t.blk.rsync = t.blk.rgray := by
  have ht := stepKeepsViewsInv s t hs h
  obtain ⟨-, b', n, rfl, move⟩ := step_transition h
  have lag := move.queueMove.lagR_le (BitVec.eq_of_toNat_eq still)
  rw [hs.rsync_eq_rgray_iff.mp seen] at lag
  exact ht.rsync_eq_rgray_iff.mpr (BitVec.eq_of_toNat_eq (Nat.le_antisymm lag (by simp)))

end Progress

/-! ### The synchronizer lines of a trace -/

section Lines

variable {s : State} {draw : Draw} {rest : List (Line s.cfg)}

theorem Draw.amount_eq {lag k : Nat} (h : draw = .exactly k ∨ (draw = .all ∧ k = lag)) : draw.amount lag = k := by
  obtain rfl | ⟨rfl, rfl⟩ := h <;> rfl

theorem step_sync_w2r_of_window (live : s.Live) (line : s.trace = .sync .w2r draw :: rest)
    (window : draw.amount s.blk.lagW.toNat ≤ s.blk.lagW.toNat) :
    step s = .next { s with trace := rest, blk := s.blk.moveWsync (draw.amount s.blk.lagW.toNat) } :=
  (step_of_trace line).trans (syncW2R_of_live (State.live_mk live rest s.draws) window)

theorem step_sync_r2w_of_window (live : s.Live) (line : s.trace = .sync .r2w draw :: rest)
    (window : draw.amount s.blk.lagR.toNat ≤ s.blk.lagR.toNat) :
    step s = .next { s with trace := rest, blk := s.blk.moveRsync (draw.amount s.blk.lagR.toNat) } :=
  (step_of_trace line).trans (syncR2W_of_live (State.live_mk live rest s.draws) window)

/-- A draw of SYNC_W2R above the lag is no step (log entry 11). -/
theorem step_sync_w2r_of_outside (live : s.Live) (line : s.trace = .sync .w2r draw :: rest)
    (outside : ¬ draw.amount s.blk.lagW.toNat ≤ s.blk.lagW.toNat) :
    step s = .refused (.drawOutsideWindow .w2r (draw.amount s.blk.lagW.toNat) s.blk.lagW.toNat) :=
  (step_of_trace line).trans ((State.whenLive_of_live (State.live_mk live rest s.draws) _).trans (if_neg outside))

/-- A draw of SYNC_R2W above the lag is no step (log entry 11). -/
theorem step_sync_r2w_of_outside (live : s.Live) (line : s.trace = .sync .r2w draw :: rest)
    (outside : ¬ draw.amount s.blk.lagR.toNat ≤ s.blk.lagR.toNat) :
    step s = .refused (.drawOutsideWindow .r2w (draw.amount s.blk.lagR.toNat) s.blk.lagR.toNat) :=
  (step_of_trace line).trans ((State.whenLive_of_live (State.live_mk live rest s.draws) _).trans (if_neg outside))

/-- `sync w2r, all` brings the copy of the write cursor up to date (spec/42_cdc_sync.md R92). -/
theorem step_sync_w2r_all (live : s.Live) (coded : s.blk.wgray = gray s.blk.wbin)
    (line : s.trace = .sync .w2r .all :: rest) :
    step s = .next { s with
      trace := rest, blk := (s.blk.setWsync s.blk.wgray).record (.sync .w2r s.blk.wgray) } := by
  rw [step_sync_w2r_of_window live line (Nat.le_refl _), Draw.amount, Block.moveWsync, coded, Block.lagW,
    gray_ungray_add_lag]

/-- `sync r2w, all` brings the copy of the read cursor up to date (spec/42_cdc_sync.md R92). -/
theorem step_sync_r2w_all (live : s.Live) (coded : s.blk.rgray = gray s.blk.rbin)
    (line : s.trace = .sync .r2w .all :: rest) :
    step s = .next { s with
      trace := rest, blk := (s.blk.setRsync s.blk.rgray).record (.sync .r2w s.blk.rgray) } := by
  rw [step_sync_r2w_of_window live line (Nat.le_refl _), Draw.amount, Block.moveRsync, coded, Block.lagR,
    gray_ungray_add_lag]

end Lines

/-! ### The chain -/

section Chain

variable {c : Config} {ch : Chain c} {source sample : c.Cursor}

/-- A chain of some depth has a last stage. -/
theorem Chain.eq_concat (depth : 0 < ch.stages.length) : ∃ init last, ch = ⟨init ++ [last]⟩ := by
  obtain ⟨stages⟩ := ch
  obtain rfl | ⟨init, last, rfl⟩ := stages.eq_nil_or_concat'
  · exact absurd depth (Nat.lt_irrefl 0)
  · exact ⟨init, last, rfl⟩

theorem Chain.out_concat (init : List c.Cursor) (last : c.Cursor) : Chain.out ⟨init ++ [last]⟩ = last := by
  simp [out]

/-- An edge drops the last stage and puts the sample before the others (spec/42_cdc_sync.md R89). -/
theorem Chain.edge_concat (init : List c.Cursor) (last sample : c.Cursor) :
    Chain.edge ⟨init ++ [last]⟩ sample = ⟨sample :: init⟩ := by
  rw [edge, ← List.cons_append, List.dropLast_concat]

theorem Chain.out_mem (depth : 0 < ch.stages.length) : ch.out ∈ ch.stages := by
  obtain ⟨init, last, rfl⟩ := ch.eq_concat depth
  simp [out_concat]

theorem Chain.edge_length (depth : 0 < ch.stages.length) (sample : c.Cursor) :
    (ch.edge sample).stages.length = ch.stages.length := by
  obtain ⟨init, last, rfl⟩ := ch.eq_concat depth
  simp [edge_concat]

/-- After an edge no stage is further behind the source than the last stage was. -/
theorem Chain.edge_behind_le (depth : 0 < ch.stages.length) (ordered : (ch.stages.map (behind source)).Pairwise (· ≤ ·))
    (can : ch.CanSample source sample) : ∀ g ∈ (ch.edge sample).stages, behind source g ≤ behind source ch.out := by
  obtain ⟨init, last, rfl⟩ := ch.eq_concat depth
  rw [List.pairwise_map, List.pairwise_append] at ordered
  obtain ⟨-, -, older⟩ := ordered
  rw [edge_concat, out_concat]
  exact List.forall_mem_cons.mpr
    ⟨can last List.mem_concat_self, fun g hg => older g hg last (List.mem_singleton_self last)⟩

/-- An edge keeps the stages in the order of their age. -/
theorem Chain.edge_ordered (ordered : (ch.stages.map (behind source)).Pairwise (· ≤ ·))
    (can : ch.CanSample source sample) : ((ch.edge sample).stages.map (behind source)).Pairwise (· ≤ ·) := by
  rw [List.pairwise_map] at *
  exact List.Pairwise.sublist (List.dropLast_sublist (sample :: ch.stages)) (List.pairwise_cons.mpr ⟨can, ordered⟩)

/-- An edge keeps a chain that follows the source following it (spec/42_cdc_sync.md R89). -/
theorem Chain.Follows.edge (follows : ch.Follows source) (hS : 0 < c.S) (can : ch.CanSample source sample) :
    (ch.edge sample).Follows source := by
  obtain ⟨length, ordered, near⟩ := follows
  have depth : 0 < ch.stages.length := length ▸ hS
  exact ⟨(ch.edge_length depth sample).trans length, edge_ordered ordered can,
    fun g hg => (edge_behind_le depth ordered can g hg).trans (near _ (out_mem depth))⟩

/-- After an edge the last stage is no further behind the source than before. -/
theorem Chain.Follows.edge_out_behind_le (follows : ch.Follows source) (hS : 0 < c.S) (can : ch.CanSample source sample) :
    behind source (ch.edge sample).out ≤ behind source ch.out := by
  obtain ⟨length, ordered, -⟩ := follows
  have depth : 0 < ch.stages.length := length ▸ hS
  exact edge_behind_le depth ordered can _ (out_mem ((ch.edge_length depth sample).symm ▸ depth))

end Chain

/-! ### The obligations -/

/-- Settles O29: the draw decides whether the line is a step. -/
theorem syncW2RMovesByTheDraw : Obligations.SyncW2RMovesByTheDraw := by
  intro s draw rest k live line drawn
  obtain rfl := Draw.amount_eq drawn
  split_ifs with window
  · exact step_sync_w2r_of_window live line window
  · simp [step_sync_w2r_of_outside live line window]

/-- Settles O30: the draw decides whether the line is a step. -/
theorem syncR2WMovesByTheDraw : Obligations.SyncR2WMovesByTheDraw := by
  intro s draw rest k live line drawn
  obtain rfl := Draw.amount_eq drawn
  split_ifs with window
  · exact step_sync_r2w_of_window live line window
  · simp [step_sync_r2w_of_outside live line window]

/-- Settles O31: a draw writes one copy, and the flag that reads it stays up exactly when the draw is 0. -/
theorem syncMovesOnlyItsFlag : Obligations.SyncMovesOnlyItsFlag := by
  refine fun c b k hW h => ⟨fun window => ?_, fun window => ?_⟩
  · have flag := h.moveWsync_emptyR window
    exact ⟨Block.fullW_congr rfl rfl, fun up => by simp [flag, up, Nat.one_le_iff_ne_zero], fun down => by simp [flag, down]⟩
  · have flag := h.moveRsync_fullW hW window
    exact ⟨Block.emptyR_congr rfl rfl, fun up => by simp [flag, up, Nat.one_le_iff_ne_zero], fun down => by simp [flag, down]⟩

/-- Settles O32: each line moves its copy by the whole lag, which makes it the Gray register. -/
theorem settleReachesSettledState : Obligations.SettleReachesSettledState := by
  intro s rest live codedW codedR line
  have first := step_sync_w2r_all live codedW line
  have second := step_sync_r2w_all (s := { s with
    trace := .sync .r2w .all :: rest, blk := (s.blk.setWsync s.blk.wgray).record (.sync .w2r s.blk.wgray) })
    live codedR rfl
  refine ⟨_, run_two first second, ?_, ?_⟩
  · simp [Block.settled]
  · simp [Block.setWsync, Block.setRsync, Block.record]

/-- Settles O33: the last stage moves on by as much as its lag shrinks. -/
theorem chainEdgeIsASynchronizerStep : Obligations.ChainEdgeIsASynchronizerStep := by
  intro c ch source sample valid follows can
  obtain ⟨-, -, -, -, hS⟩ := config_check_eq_none.mp valid
  have stage : 0 < c.S := by omega
  exact ⟨follows.edge stage can, _, Nat.sub_le .., eq_gray_ungray_add (follows.edge_out_behind_le stage can)⟩

/-- Settles O40: the views are the occupancy with the one lag and less the other, and `occ + lagR` fits the block. -/
theorem viewsAreConservative : Obligations.ViewsAreConservative := by
  intro c b hW h
  have seenW := h.occW_toNat hW
  have seenR := h.occR_toNat
  have full := h.fullW_eq_true_iff hW
  have := h.lagW_le_occ
  have := h.room
  refine ⟨seenW, by omega, by omega, by omega, by omega, by rw [full, seenW], fun room => ?_, fun stored => ?_⟩
  · exact Nat.lt_of_le_of_lt (Nat.le_add_right ..) (h.room_of_not_fullW hW room)
  · exact Nat.lt_of_le_of_lt (Nat.zero_le _) (h.lagW_lt_of_not_emptyR stored)

/-- Settles O41: with both lags 0 the views are the occupancy. -/
theorem settledViewsAreTrue : Obligations.SettledViewsAreTrue := by
  refine fun c b hW h => ⟨h.settled_iff, fun settled => ?_⟩
  obtain ⟨lagW, lagR⟩ := h.settled_iff.mp settled
  have seenR : b.occR = b.occ := by rw [b.occR_eq, lagW, sub_zero]
  refine ⟨by rw [b.occW_eq, lagR, add_zero], seenR, ?_, ?_⟩
  · simp [h.fullW_eq_true_iff hW, lagR]
  · rw [b.emptyR_eq_true_iff, seenR, Block.occ, sub_eq_zero]

/-- Settles O52: the copy catches up by the assumption, and every later step leaves its lag 0. -/
theorem stoppedCursorIsSeenForGood : Obligations.StoppedCursorIsSeenForGood := by
  refine fun run n hrun start => ⟨fun catches still => ?_, fun catches still => ?_⟩
  · obtain ⟨m, later, seen⟩ := catches n still
    exact ⟨m, later, Nat.le_induction seen fun j hj =>
      step_keeps_wsync_eq_wgray (hrun j) (hrun.viewsInv start j) (still j (later.trans hj))⟩
  · obtain ⟨m, later, seen⟩ := catches n still
    exact ⟨m, later, Nat.le_induction seen fun j hj =>
      step_keeps_rsync_eq_rgray (hrun j) (hrun.viewsInv start j) (still j (later.trans hj))⟩

end Sys2Proof.Machine
end

section
/-! PROOFS. Scope: the marks and the moves of the agents: a marked state is quiescent, a marking step writes its mark and event
alone, what has no move in the spec is no step, and what has one is a step (spec/60_exceptions.md R98 to R101, R106, R107). -/

namespace Sys2Proof.Machine

/-! ### Marks -/

section Marks

variable {s : State}

/-- A live state holds no mark (spec/60_exceptions.md R99). -/
theorem State.not_live_of_marked (marked : s.blk.faults ≠ [] ∨ s.blk.refused ≠ none) : ¬ s.Live :=
  fun ⟨_, unfaulted, unrefused⟩ => marked.elim (· unfaulted) (· unrefused)

/-- A good final state holds no mark (spec/60_exceptions.md R108). -/
theorem State.goodFinal_of_marked (marked : s.blk.faults ≠ [] ∨ s.blk.refused ≠ none) : s.goodFinal = false := by
  rcases marked with faulted | refused
  · simp [goodFinal, faulted]
  · simp [goodFinal, Option.ne_none_iff_isSome.mp refused]

variable {c : Config} {b b' : Block c}

/-- A transition sets no mark, or it is the raising of a fault or a refusal and nothing more (spec/60_exceptions.md R98,
R100). -/
theorem Transition.marks (move : Transition b b') :
    b'.sameMarks b ∨ (∃ f, b' = b.raise f) ∨ ∃ r, b' = b.refuse r := by
  cases move with
  | unwritten | resetPending => exact .inr (.inl ⟨_, rfl⟩)
  | reservedCommand | unmodelledForm => exact .inr (.inr ⟨_, rfl⟩)
  | idleW | idleR | issuePush | issuePop | acceptPush | rejectPush | acceptPop | rejectPop | moveWsync | moveRsync | new =>
    exact .inl ⟨rfl, rfl⟩

end Marks

/-! ### What is no step -/

section NoStep

variable {s t : State}

theorem State.whenWportIdle_of_pending {p : Nat} {v : s.cfg.Element} (held : s.blk.wport[p]? = some (.pending v))
    (a : Answer) : s.whenWportIdle p a = .refused (.portPending (.w p)) := by
  simp only [whenWportIdle, held]

theorem State.whenRportIdle_of_pending {q : Nat} (pending : s.blk.rport[q]? = some .pending) (a : Answer) :
    s.whenRportIdle q a = .refused (.portPending (.r q)) := by
  simp only [whenRportIdle, pending]

theorem State.whenWportIdle_of_absent {p : Nat} (absent : s.cfg.P ≤ p) (a : Answer) :
    s.whenWportIdle p a = .refused (.noSuchPort (.w p)) := by
  simp only [whenWportIdle, Vector.getElem?_eq_none absent]

theorem State.whenRportIdle_of_absent {q : Nat} (absent : s.cfg.C ≤ q) (a : Answer) :
    s.whenRportIdle q a = .refused (.noSuchPort (.r q)) := by
  simp only [whenRportIdle, Vector.getElem?_eq_none absent]

/-- PUSH of an element of DW bits, decided by its port (spec/40_push.md R66). -/
theorem execPush_of_lt (live : s.Live) {v : Nat} (fits : v < 2 ^ s.cfg.DW) (p : Nat) :
    execPush p v s = s.whenWportIdle p (.next (s.withBlk (s.blk.issuePush p (BitVec.ofNat s.cfg.DW v)))) := by
  rw [execPush, State.whenLive_of_live live]
  simp only [elementOf_of_lt fits]

/-- PUSH of more than DW bits, whatever its port (spec/30_encoding.md R59). -/
theorem execPush_of_le (live : s.Live) {v : Nat} (wide : 2 ^ s.cfg.DW ≤ v) (p : Nat) :
    execPush p v s = .refused (.elementTooWide v) := by
  have noElement : elementOf s.cfg v = none := if_neg (Nat.not_lt.mpr wide)
  rw [execPush, State.whenLive_of_live live]
  simp only [noElement]

/-- A commit answers a next state only where its request is pending (spec/60_exceptions.md R106). -/
theorem commitPort_isPending {port : Port} (h : commitPort s port = .next t) : s.blk.isPending port = true := by
  cases port with
  | w p =>
    obtain ⟨-, b, -, move⟩ := runLine_producerMove (l := .commit (.w p)) (.inl rfl) h
    cases move with
    | accept _ held | reject _ held => exact Block.isPending_of_wport_pending held
  | r q =>
    obtain ⟨-, b, n, -, move⟩ := runLine_consumerMove (l := .commit (.r q)) (.inl rfl) h
    cases move with
    | accept _ pending | reject pending | unwritten pending => exact Block.isPending_of_rport_pending pending

end NoStep

/-! ### The moves of the agents -/

section Agents

variable {s : State}

theorem Block.wport_of_isPending {c : Config} {b : Block c} {p : Nat} (h : b.isPending (.w p) = true) :
    ∃ v, b.wport[p]? = some (.pending v) := by
  simp only [isPending] at h
  split at h
  case h_1 v held => exact ⟨v, held⟩
  case h_2 => cases h

theorem Block.rport_of_isPending {c : Config} {b : Block c} {q : Nat} (h : b.isPending (.r q) = true) :
    b.rport[q]? = some .pending :=
  of_decide_eq_true h

/-- The event of an agent's own step: a commit, a synchronizer step or the fault of a commit (spec/60_exceptions.md R106). -/
def Block.AgentEvent {c : Config} (b : Block c) (e : Event c) : Prop :=
  (∃ port kind count cursor value, e = .commit port kind count cursor value) ∨ (∃ dir g, e = .sync dir g) ∨
    ∃ port, e = .fault (.unwrittenSlotRead port b.rbin)

/-- The line is a step, and its event is an agent's. -/
def State.AgentMoves (s : State) (l : Line s.cfg) : Prop :=
  ∃ (b : Block s.cfg) (n : Nat) (e : Event s.cfg), runLine s l = .next { s with blk := b, draws := n } ∧
    b.history = s.blk.history ++ [e] ∧ s.blk.AgentEvent e

/-- The commit of a pending request is enabled (spec/60_exceptions.md R106). -/
theorem State.Live.agentMoves_commit (live : s.Live) {port : Port} (pending : s.blk.isPending port = true) :
    s.AgentMoves (.commit port) := by
  cases port with
  | w p =>
    obtain ⟨v, held⟩ := Block.wport_of_isPending pending
    cases full : s.blk.fullW with
    | true => exact ⟨_, _, _, commitPush_of_full live held full, rfl, .inl ⟨_, _, _, _, _, rfl⟩⟩
    | false => exact ⟨_, _, _, commitPush_of_room live held full, rfl, .inl ⟨_, _, _, _, _, rfl⟩⟩
  | r q =>
    have pending := Block.rport_of_isPending pending
    cases empty : s.blk.emptyR with
    | true => exact ⟨_, _, _, commitPop_of_empty live pending empty, rfl, .inl ⟨_, _, _, _, _, rfl⟩⟩
    | false =>
      cases read : s.blk.mem.read (slotOf s.cfg s.blk.rbin) with
      | some v => exact ⟨_, _, _, commitPop_of_stored live pending empty read, rfl, .inl ⟨_, _, _, _, _, rfl⟩⟩
      | none => exact ⟨_, _, _, commitPop_of_unwritten live pending empty read, rfl, .inr (.inr ⟨_, rfl⟩)⟩

/-- A draw of SYNC_W2R in its window is enabled (spec/42_cdc_sync.md R90). -/
theorem State.Live.agentMoves_w2r (live : s.Live) {k : Nat} (window : k ≤ s.blk.lagW.toNat) :
    s.AgentMoves (.sync .w2r (.exactly k)) :=
  ⟨_, _, _, syncW2R_of_live live window, rfl, .inr (.inl ⟨_, _, rfl⟩)⟩

/-- A draw of SYNC_R2W in its window is enabled (spec/42_cdc_sync.md R91). -/
theorem State.Live.agentMoves_r2w (live : s.Live) {k : Nat} (window : k ≤ s.blk.lagR.toNat) :
    s.AgentMoves (.sync .r2w (.exactly k)) :=
  ⟨_, _, _, syncR2W_of_live live window, rfl, .inr (.inl ⟨_, _, rfl⟩)⟩

/-- Whatever agent the free value names, the line of its move is enabled (log entry 3). -/
theorem State.Live.agentMoves_agentLine (live : s.Live) (n : Nat) :
    State.AgentMoves { s with draws := n } s.agentLine := by
  have live : State.Live { s with draws := n } := State.live_mk live s.trace n
  unfold State.agentLine
  split
  case h_1 port =>
    split_ifs with pending
    · exact live.agentMoves_commit pending
    · exact live.agentMoves_w2r (Nat.zero_le _)
  case h_2 => exact live.agentMoves_w2r (Nat.le_of_lt_succ (Nat.mod_lt _ (Nat.succ_pos _)))
  case h_3 => exact live.agentMoves_r2w (Nat.le_of_lt_succ (Nat.mod_lt _ (Nat.succ_pos _)))

/-- With no line left the step is that of an agent (log entry 3). -/
theorem step_of_trace_nil (h : s.trace = []) : step s = runLine { s with draws := s.draws + 1 } s.agentLine := by
  unfold step
  rw [h]

end Agents

/-! ### Every transition has its line -/

section EveryMove

variable {s : State}

/-- NEW with no request pending (spec/70_reset_and_hazards.md R111). -/
theorem execNew_of_idle (live : s.Live) (idle : s.blk.pendingPorts = []) :
    execNew s = .next (s.withBlk (s.blk.cleared.record .reset)) :=
  (State.whenLive_of_live live _).trans (if_pos idle)

/-- NEW with a request pending (spec/70_reset_and_hazards.md R112). -/
theorem execNew_of_pending (live : s.Live) (pending : s.blk.pendingPorts ≠ []) :
    execNew s = s.raise (.resetWhilePending s.blk.pendingPorts) :=
  (State.whenLive_of_live live _).trans (if_neg pending)

/-- Every well-formed instruction has a line that presents it (spec/30_encoding.md R64). -/
theorem exists_line_of_wf {i : Instr} (wf : i.wf s.cfg = true) : ∃ l, runLine s l = exec i s := by
  cases i with
  | idleW p | idleR q | push p v | pop q => exact ⟨.issue _ _, runLine_issue_of_ok (decodeOfEncode _ _ wf)⟩
  | new => exact ⟨.reset, rfl⟩

/-- Some line makes the machine step to the block `b`. -/
def State.Reaches (s : State) (b : Block s.cfg) : Prop :=
  ∃ (l : Line s.cfg) (n : Nat), runLine s l = .next { s with blk := b, draws := n }

theorem State.reaches_of_exec {i : Instr} {b : Block s.cfg} (wf : i.wf s.cfg = true)
    (h : exec i s = .next (s.withBlk b)) : s.Reaches b := by
  obtain ⟨l, hl⟩ := exists_line_of_wf wf
  exact ⟨l, s.draws, hl.trans h⟩

/-- Every transition from a live state is reached by some line, a rejected POP with the machine's own draw. -/
theorem Transition.reaches {b' : Block s.cfg} (live : s.Live) (move : Transition s.blk b') :
    s.Reaches b' ∨ ∃ q d d', b' = s.blk.rejectPop q d' ∧ s.Reaches (s.blk.rejectPop q d) := by
  cases move with
  | rejectPop q d pending empty =>
    exact .inr ⟨q, _, d, rfl, .commit (.r q), _, commitPop_of_empty live pending empty⟩
  | idleW p idle =>
    have wf : (Instr.idleW p).wf s.cfg = true := decide_eq_true (Block.wport_known idle)
    exact .inl (State.reaches_of_exec wf (execIdleW_of_idle live idle))
  | idleR q idle =>
    have wf : (Instr.idleR q).wf s.cfg = true := decide_eq_true (Block.rport_known idle)
    exact .inl (State.reaches_of_exec wf (execIdleR_of_idle live idle))
  | issuePush p v idle =>
    have wf : (Instr.push p v.toNat).wf s.cfg = true := by simp [Instr.wf, Port.exists, Block.wport_known idle, v.isLt]
    exact .inl (State.reaches_of_exec wf (execPush_of_idle live (elementOf_toNat v) idle))
  | issuePop q idle =>
    have wf : (Instr.pop q).wf s.cfg = true := decide_eq_true (Block.rport_known idle)
    exact .inl (State.reaches_of_exec wf (execPop_of_idle live idle))
  | acceptPush p v held room => exact .inl ⟨.commit (.w p), _, commitPush_of_room live held room⟩
  | rejectPush p v held full => exact .inl ⟨.commit (.w p), _, commitPush_of_full live held full⟩
  | acceptPop q v pending stored read => exact .inl ⟨.commit (.r q), _, commitPop_of_stored live pending stored read⟩
  | unwritten q pending stored read => exact .inl ⟨.commit (.r q), _, commitPop_of_unwritten live pending stored read⟩
  | moveWsync k window => exact .inl ⟨.sync .w2r (.exactly k), _, syncW2R_of_live live window⟩
  | moveRsync k window => exact .inl ⟨.sync .r2w (.exactly k), _, syncR2W_of_live live window⟩
  | new idle => exact .inl ⟨.reset, _, execNew_of_idle live idle⟩
  | resetPending pending => exact .inl ⟨.reset, _, execNew_of_pending live pending⟩
  | reservedCommand port word known e illegal =>
    exact .inl ⟨.issue port word, _, (runLine_issue_of_error illegal).trans (issueIllegal_of_live live known word)⟩
  | unmodelledForm form => exact .inl ⟨.outOfScope form, _, State.whenLive_of_live live _⟩

end EveryMove

/-! ### The obligations -/

/-- Settles O16: every step and every instruction answers a next state from a live state only. -/
theorem markedStateIsQuiescent : Obligations.MarkedStateIsQuiescent := fun _ marked =>
  have notLive := State.not_live_of_marked marked
  ⟨fun _ h => notLive (step_transition h).1, fun _ _ h => notLive (exec_transition h).1, State.goodFinal_of_marked marked⟩

/-- Settles O18: the state was live, so it held no mark and a mark that the transition sets is the only one. -/
theorem markingStepWritesNothingElse : Obligations.MarkingStepWritesNothingElse := by
  intro s t h
  obtain ⟨-, unfaulted, unrefused⟩ := (step_transition h).1
  refine step_moves h fun b' move => ⟨unfaulted, unrefused, ?_⟩
  obtain ⟨faults, refused⟩ | ⟨f, rfl⟩ | ⟨r, rfl⟩ := move.marks
  · exact ⟨.inl (faults.trans unfaulted), .inl (refused.trans unrefused)⟩
  · exact ⟨.inr ⟨f, Block.raise_of_unmarked unfaulted f⟩, .inl unrefused⟩
  · exact ⟨.inl unfaulted, .inr ⟨r, rfl⟩⟩

/-- Settles O50: the line of the agent that the free value names is enabled, whichever it is. -/
theorem agentsStepWithoutTheHost : Obligations.AgentsStepWithoutTheHost := by
  intro s live done
  obtain ⟨b, n, e, h, history, agent⟩ := live.agentMoves_agentLine (s.draws + 1)
  exact ⟨_, (step_of_trace_nil done).trans h, congrArg List.length done, b, _, n, rfl, e, history, agent⟩

/-- Settles O51: the line that reaches the transition's block, put before the trace, is the step. -/
theorem everyTransitionIsAStep : Obligations.EveryTransitionIsAStep := by
  intro s b' rest live move
  obtain ⟨l, n, h⟩ | ⟨q, d, d', same, l, n, h⟩ :=
    Transition.reaches (s := { s with trace := rest }) (State.live_mk live rest s.draws) move
  · exact ⟨l, b', n, h, .inl rfl⟩
  · exact ⟨l, s.blk.rejectPop q d, n, h, .inr ⟨q, d, d', same, rfl⟩⟩

/-- Settles O13: a PUSH is refused for its element first, and every issue then for its port. -/
theorem hostHasNoMoveOnPendingPort : Obligations.HostHasNoMoveOnPendingPort := by
  intro s live
  have checked := State.whenLive_of_live live
  refine ⟨fun p x held => ?_, fun q pending => ?_, fun p absent => ?_, fun q absent => ?_, fun p v wide => ?_⟩
  · have refused := State.whenWportIdle_of_pending held
    exact ⟨(checked _).trans (refused _), fun v fits => (execPush_of_lt live fits p).trans (refused _)⟩
  · have refused := State.whenRportIdle_of_pending pending
    exact ⟨(checked _).trans (refused _), (checked _).trans (refused _)⟩
  · have refused := State.whenWportIdle_of_absent absent
    exact ⟨(checked _).trans (refused _), fun v fits => (execPush_of_lt live fits p).trans (refused _)⟩
  · have refused := State.whenRportIdle_of_absent absent
    exact ⟨(checked _).trans (refused _), (checked _).trans (refused _)⟩
  · exact execPush_of_le live wide p

/-- Settles O25: a commit that is a step has its request pending. -/
theorem commitNeedsPendingRequest : Obligations.CommitNeedsPendingRequest := by
  intro s port rest line idle t h
  rw [step_of_trace line] at h
  have pending := commitPort_isPending (s := { s with trace := rest }) h
  exact Bool.false_ne_true (idle.symm.trans pending)

end Sys2Proof.Machine
end

section
/-! PROOFS. Scope: the answers of NEW, completed and faulted, and of a line that writes an out-of-scope form
(spec/70_reset_and_hazards.md R111 to R113, spec/60_exceptions.md R100). -/

namespace Sys2Proof.Machine

/-! ### The flags after NEW -/

section Flags

variable {c : Config} (b : Block c)

/-- A cleared block has room: both sides of the full test start at 0, and the block has a slot (spec/10_state.md R27). -/
@[simp] theorem Block.cleared_fullW : b.cleared.fullW = false := by
  have hasSlot : 0 < c.N := Nat.two_pow_pos c.A
  rw [Block.fullW_eq_false_iff]
  simpa [Block.occW] using hasSlot

/-- A cleared block is empty (spec/10_state.md R28). -/
@[simp] theorem Block.cleared_emptyR : b.cleared.emptyR = true := by
  rw [Block.emptyR_eq_true_iff]
  simp [Block.occR]

/-- A cleared block is settled: the copies and the registers they follow start at the same value (spec/42_cdc_sync.md
R92). -/
@[simp] theorem Block.cleared_settled : b.cleared.settled = true := by simp [Block.settled]

end Flags

/-! ### The marks of a live state -/

/-- A live state's fault is its only mark (spec/60_exceptions.md R98). -/
theorem State.raise_of_live {s : State} (live : s.Live) (f : FaultMark s.cfg) :
    s.raise f = .next { s with blk := { s.blk with faults := [f], history := s.blk.history ++ [.fault f] } } := by
  obtain ⟨-, unfaulted, -⟩ := live
  rw [State.raise, Block.raise_of_unmarked unfaulted, State.withBlk]

/-- An out-of-scope form's line as a step of a live state (spec/60_exceptions.md R100). -/
theorem step_outOfScope {s : State} {form : Form} {rest : List (Line s.cfg)} (live : s.Live)
    (line : s.trace = .outOfScope form :: rest) :
    step s = .next { s with trace := rest, blk := s.blk.refuse (.unmodelledForm form) } :=
  (step_of_trace line).trans (State.whenLive_of_live (State.live_mk live rest s.draws) _)

/-! ### The obligations -/

/-- Settles O10: with no port pending NEW answers the cleared block, and the flags do not read the event it records. -/
theorem newCompletes : Obligations.NewCompletes := by
  intro s live idle
  have answer := execNew_of_idle live (Block.pendingPorts_eq_nil.mpr idle)
  exact ⟨_, answer, rfl, fun _ => rfl, s.blk.cleared_fullW, s.blk.cleared_emptyR, s.blk.cleared_settled⟩

/-- Settles O11: the list NEW raises is that of the pending ports, and a live state has no other mark to keep. -/
theorem newWhilePendingFaults : Obligations.NewWhilePendingFaults := by
  rintro s live ⟨port, pending⟩
  have listed : s.blk.pendingPorts ≠ [] := List.ne_nil_of_mem (Block.mem_pendingPorts.mpr pending)
  refine ⟨s.blk.pendingPorts, fun _ => Block.mem_pendingPorts, ?_⟩
  exact (execNew_of_pending live listed).trans (State.raise_of_live live _)

/-- Settles O15: the line's refusal is the block's mark and event. -/
theorem outOfScopeFormRefused : Obligations.OutOfScopeFormRefused := fun _ _ _ live line => step_outOfScope live line

end Sys2Proof.Machine
end

section
/-! PROOFS. Scope: the canonical form of the storage, kept by every step, and the launch state, which has the invariants of a
block after NEW (spec/10_state.md R22 and R36, spec/20_memory.md R41, spec/70_reset_and_hazards.md R111). -/

namespace Sys2Proof.Machine

section Storage

variable {c : Config} {b b' : Block c}

/-- Of the moves, an accepted push stores in a slot of the block, NEW empties the storage, and no other writes it. -/
theorem QueueMove.keeps_mem_wf (h : b.mem.wf = true) (move : QueueMove b b') : b'.mem.wf = true := by
  cases move with
  | push p v _ => exact Memory.write_wf h (slotOf_lt b.wbin) v
  | pop | moveWsync | moveRsync => exact h
  | new => exact Memory.nil_wf
  | rest e rests => rwa [rests.mem]

end Storage

/-! ### The block at launch -/

/-- NEW leaves every producer port Idle, and its event is not counted among those since NEW. -/
theorem Block.PortOrderInv.new {c : Config} (b : Block c) : (b.cleared.record .reset).PortOrderInv := by
  refine Block.portOrderInv_iff.mpr fun p port held => ⟨[], ?_⟩
  obtain ⟨-, rfl⟩ : p < c.P ∧ .idle = port := by simpa [Vector.getElem?_replicate] using held
  simp [AnsweredInOrder, sinceNew_append_reset, WPort.held]

section Launch

variable (c : Config)

/-- A block as at launch, before its first event. -/
def Block.unrecorded : Block c := { Block.launch c with history := [] }

/-- The block at launch is one after a NEW (spec/10_state.md R36, spec/70_reset_and_hazards.md R111). -/
theorem Block.launch_eq_new : Block.launch c = (Block.unrecorded c).cleared.record .reset := rfl

theorem Block.launch_queueInv : (Block.launch c).QueueInv := launch_eq_new c ▸ .new (unrecorded c)

theorem Block.launch_claimsInv : (Block.launch c).ClaimsInv := launch_eq_new c ▸ .new (unrecorded c)

theorem Block.launch_portOrderInv : (Block.launch c).PortOrderInv := launch_eq_new c ▸ .new (unrecorded c)

/-- The machine of a well-formed configuration starts with no mark (spec/10_state.md R36). -/
theorem State.launch_live {c : Config} (valid : c.check = none) : (State.launch c).Live := ⟨valid, rfl, rfl⟩

end Launch

/-! ### The obligations -/

/-- Settles O39, move by move: only an accepted push lists a slot, and that slot is `slotOf` of a cursor. -/
theorem stepKeepsMemoryCanonical : Obligations.StepKeepsMemoryCanonical := fun _ _ hs h =>
  step_keeps (Inv := fun b => b.mem.wf = true) (fun _ inv move => move.queueMove.keeps_mem_wf inv) h hs

/-- Settles O34: the block at launch is one after NEW, which every invariant holds of, and it has no mark. -/
theorem launchMeetsEveryInvariant : Obligations.LaunchMeetsEveryInvariant :=
  ⟨fun c => ⟨Block.launch_queueInv c, Block.launch_claimsInv c, Block.launch_portOrderInv c, Memory.nil_wf,
      State.launch_live⟩,
    State.launch_live (by decide), Block.launch_queueInv _⟩

end Sys2Proof.Machine
end
